-- ==== Sys2Proof/Word.lean ====
section
/-! DEFINITION. The words of the block: bytes, the wider fields that cross its wires, and the numbers of
its lanes, instruments, step records and limit entries. -/

namespace Sys2Proof

/-- One byte of a lane link or of the uplink. -/
abbrev Byte := BitVec 8

/-- A two-byte field (R196). -/
abbrev Half := BitVec 16

/-- A four-byte field (R196). -/
abbrev Quad := BitVec 32

/-- A lane, counted from 0: lane number `n` of the manual (1 to 16) is `n - 1` here. -/
abbrev LaneId := Fin 16

/-- An instrument, counted from 0: instrument number `n` of the manual (1 to 4) is `n - 1` here. -/
abbrev InstrumentId := Fin 4

/-- The index of a step record, 0 to 31 (R51). -/
abbrev RecordId := Fin 32

/-- The index of a limit entry, 0 to 255 (R94). -/
abbrev LimitId := Fin 256

/-- A lane set: bit `n - 1` stands for lane `n` (R196). -/
abbrev LaneSet := BitVec 16

/-- The sixteen lanes in lane order. -/
def laneIds : List LaneId := List.finRange 16

/-- The four instruments in order. -/
def instrumentIds : List InstrumentId := List.finRange 4

end Sys2Proof
end

