-- ==== Sys2Proof/Syntax.lean ====
section
/-! DEFINITION. The commands of the block: one constructor for each row of the table of operations and
events, with what the event brings from outside as its operands. What an event finds inside the part (the
order at the head of the ingress queue, the frame the dispatcher's rotation reaches) is no operand: it is
in the state. -/

namespace Sys2Proof

/-- The framing a sync pair announces (R7). -/
inductive Framing where
  | app
  | loader
  deriving DecidableEq, Repr

/-- A complete lane frame as its last check byte leaves it, before its check word is compared (R5, R10). The
length byte is the payload's length. -/
structure RawFrame where
  framing : Framing
  kind    : Byte
  seq     : Byte
  payload : List Byte
  check   : Half
  deriving DecidableEq, Repr

/-- One command, event or order taking: one constructor per row of the table of operations and events. -/
inductive Instr where
  /-- POWER_ON: `straps` are the strap pins (R161) and `seats` the raw SEAT levels (R30) at that moment. -/
  | powerOn (straps : BitVec 4) (seats : LaneSet)
  /-- LINK_UP: the PHY reports the link up (R168). -/
  | linkUp
  /-- LINK_DOWN: the PHY reports the link down (R168). -/
  | linkDown
  /-- UPLINK_FRAME: the bytes from destination address through FCS, and whether the PHY signalled a receive
  error during the frame (R158). -/
  | uplinkFrame (bytes : List Byte) (rxError : Bool)
  /-- PAUSE: a flow control frame, bytes from destination address through FCS (R160). -/
  | pause (bytes : List Byte) (rxError : Bool)
  /-- BULK_HOLD_EXPIRY (R160). -/
  | bulkHoldExpiry
  /-- REPORT_FRAME_START: the free uplink transmitter chooses (R167). -/
  | reportFrameStart
  /-- SUMMARY_ENQUEUE: the closing list's head meets a free bulk place (R90). -/
  | summaryEnqueue
  /-- STEP: the order unit takes the STEP order at the head of the ingress queue (R56). -/
  | step
  /-- ABORT: as STEP, for an ABORT order (R64). -/
  | abort
  /-- EXTEND: as STEP, for an EXTEND order (R62). -/
  | extend
  /-- RELAY: as STEP, for a RELAY order (R184). -/
  | relay
  /-- LINE: as STEP, for a LINE order (R137). -/
  | line
  /-- LANE-SET: as STEP, for a LANE-SET order (R180). -/
  | laneSet
  /-- INSTRUMENT-SET: as STEP, for an INSTRUMENT-SET order (R152). -/
  | instrumentSet
  /-- BEACON-SET: as STEP, for a BEACON-SET order (R181). -/
  | beaconSet
  /-- LOAD of the LIMIT table, and of any table code but GROUP (R96, R182). -/
  | loadLimit
  /-- LOAD of the GROUP table (R52). -/
  | loadGroup
  /-- READ of the LIMIT table, and of any table code but GROUP, ROSTER and BOARD (R100, R182). -/
  | readLimit
  /-- READ of the GROUP table (R52). -/
  | readGroup
  /-- READ of the ROSTER table (R183). -/
  | readRoster
  /-- READ of the BOARD table (R138). -/
  | readBoard
  /-- CLEAR-VERDICT: as STEP, for a CLEAR-VERDICT order (R126). -/
  | clearVerdict
  /-- UNLATCH: as STEP, for an UNLATCH order (R127). -/
  | unlatch
  /-- CLEAR-FLAGS: as STEP, for a CLEAR-FLAGS order (R185). -/
  | clearFlags
  /-- RESUME: as STEP, for a RESUME order (R47). -/
  | resume
  /-- START: as STEP, for a START order (R176). -/
  | start
  /-- RESET: as STEP, for a RESET order (R177); `straps` are the strap pins at that moment (R161). -/
  | reset (straps : BitVec 4)
  /-- An order of a kind that is none of the sixteen (R172). -/
  | unknownOrderKind
  /-- LANE_CHARACTER: a character on a lane, and whether its stop bit was found low (R3, R10, R11). -/
  | laneCharacter (lane : LaneId) (char : Byte) (stopLow : Bool)
  /-- GAP_TIMEOUT: the gap timer runs past the gap limit (R12). -/
  | gapTimeout (lane : LaneId)
  /-- LANE_FRAME_RECEIVED: a complete frame other than a MARK (R10, R13, R15 to R17). -/
  | laneFrameReceived (lane : LaneId) (frame : RawFrame)
  /-- MARK: a complete frame whose kind byte reads MARK (R20). -/
  | mark (lane : LaneId) (framing : Framing) (seq : Byte) (payload : List Byte) (check : Half)
  /-- SEND_MARK: the lane's free transmitter sends the owed MARK (R18). -/
  | sendMark (lane : LaneId)
  /-- SEND_NEW_FRAME: the lane's free transmitter starts a new frame (R19). -/
  | sendNewFrame (lane : LaneId)
  /-- SEND_RESEND: the lane's free transmitter starts a due resend (R18, R21). -/
  | sendResend (lane : LaneId)
  /-- LAST_BYTE_OUT: the last byte of the frame being sent is out (R21). -/
  | lastByteOut (lane : LaneId)
  /-- MARK_WINDOW_EXPIRY (R21). -/
  | markWindowExpiry (lane : LaneId)
  /-- RETRY_PAUSE_EXPIRY (R21). -/
  | retryPauseExpiry (lane : LaneId)
  /-- SEAT_CHANGE: the raw SEAT input takes a level (R29). -/
  | seatChange (lane : LaneId) (level : Bool)
  /-- DEBOUNCE_EXPIRY (R29). -/
  | debounceExpiry (lane : LaneId)
  /-- ANNOUNCE_EXPIRY (R42). -/
  | announceExpiry (lane : LaneId)
  /-- KEY_PULSE_EXPIRY (R134). -/
  | keyPulseExpiry (lane : LaneId)
  /-- HELLO: the dispatcher takes an APP HELLO and hands it to the roster (R34, R48). -/
  | hello
  /-- RESULT: the dispatcher takes an APP RESULT and hands it to the judge (R48, R73). -/
  | result
  /-- TEXT: the dispatcher takes an APP TEXT or any LOADER frame and forwards it (R48, R49). -/
  | text
  /-- CLAIM: the dispatcher takes an APP CLAIM and hands it to the arbiter (R48, R142). -/
  | claim
  /-- RELEASE: the dispatcher takes an APP RELEASE and hands it to the arbiter (R48, R147). -/
  | release
  /-- HOLD_EXPIRY: the hold timer of an instrument runs out (R149). -/
  | holdExpiry (instrument : InstrumentId)
  /-- DEADLINE_EXPIRY: the deadline timer of a step record runs out (R63). -/
  | deadlineExpiry (record : RecordId)
  /-- INTERVAL_EXPIRY (R188). -/
  | intervalExpiry
  /-- SPACING_EXPIRY (R189). -/
  | spacingExpiry
  /-- BEACON_ENTRY: a due beacon meets a free urgent place (R190). -/
  | beaconEntry
  deriving DecidableEq, Repr

end Sys2Proof
end

