-- ==== Sys2Proof/Machine/Bytes.lean ====
section
/-! DEFINITION. Byte order, readers of byte lists, the check word of a lane frame and the two CRCs. -/

namespace Sys2Proof.Machine

open Sys2Proof

/-- The 16-bit word whose low byte is `lo` and whose high byte is `hi`. -/
def half (lo hi : Byte) : Half := hi ++ lo

/-- A two-byte field, low byte first (R196). -/
def le16 (w : Half) : List Byte := [w.setWidth 8, (w >>> 8).setWidth 8]

/-- A four-byte field, low byte first (R196). -/
def le32 (w : Quad) : List Byte :=
  [w.setWidth 8, (w >>> 8).setWidth 8, (w >>> 16).setWidth 8, (w >>> 24).setWidth 8]

/-- A two-byte field of the Ethernet header, high byte first (R196). -/
def be16 (w : Half) : List Byte := [(w >>> 8).setWidth 8, w.setWidth 8]

/-- A number as one byte. -/
def byteOf (n : Nat) : Byte := BitVec.ofNat 8 n

/-- A number as a two-byte field. -/
def le16Nat (n : Nat) : List Byte := le16 (BitVec.ofNat 16 n)

/-- A level as one byte: off, released or clear 00h; on, pressed or set 01h (R196). -/
def levelByte (b : Bool) : Byte := if b then 0x01#8 else 0x00#8

/-- The byte at an offset, 00h past the end. -/
def byteAt (l : List Byte) (k : Nat) : Byte := l.getD k 0x00#8

/-- The two-byte field at an offset, low byte first. -/
def halfAt (l : List Byte) (k : Nat) : Half := half (byteAt l k) (byteAt l (k + 1))

/-- The two-byte field at an offset, high byte first. -/
def bigHalfAt (l : List Byte) (k : Nat) : Half := half (byteAt l (k + 1)) (byteAt l k)

/-- The four-byte field at an offset, low byte first. -/
def quadAt (l : List Byte) (k : Nat) : Quad := halfAt l (k + 2) ++ halfAt l k

/-! ### The check word of a lane frame (R6) -/

/-- One 16-bit addition, a carry out of bit 15 added into bit 0 (R6). -/
def addEndAround (a b : Half) : Half :=
  if a.toNat + b.toNat < 65536 then BitVec.ofNat 16 (a.toNat + b.toNat)
  else BitVec.ofNat 16 (a.toNat + b.toNat - 65535)

/-- The words of a byte list added onto a sum: pairs low byte first, an odd last byte under 00h (R6). -/
def sumWords : List Byte → Half → Half
  | [], acc => acc
  | [b], acc => addEndAround acc (half b 0x00#8)
  | lo :: hi :: rest, acc => sumWords rest (addEndAround acc (half lo hi))

/-- The check word over the length, kind, sequence and payload bytes (R6). -/
def checkWord (kind seq : Byte) (payload : List Byte) : Half :=
  sumWords (byteOf payload.length :: kind :: seq :: payload) 0#16

/-! ### The two CRCs -/

/-- One shift of the digest register (R105). -/
def digestShift (r : Half) : Half := if r.msb then (r <<< 1) ^^^ 0x1021#16 else r <<< 1

/-- One byte through the digest register (R105). -/
def digestByte (r : Half) (b : Byte) : Half := Nat.repeat digestShift 8 (r ^^^ half 0x00#8 b)

/-- The digest of a blob (R105). -/
def digest (blob : List Byte) : Half := blob.foldl digestByte 0xFFFF#16

/-- One shift of the FCS register, in its reflected bit order (R158). -/
def fcsShift (r : Quad) : Quad := if r.getLsbD 0 then (r >>> 1) ^^^ 0xEDB88320#32 else r >>> 1

/-- One byte through the FCS register (R158). -/
def fcsByte (r : Quad) (b : Byte) : Quad := Nat.repeat fcsShift 8 (r ^^^ b.setWidth 32)

/-- The FCS over the bytes of a frame (R158). -/
def fcs (bytes : List Byte) : Quad := ~~~ (bytes.foldl fcsByte 0xFFFFFFFF#32)

end Sys2Proof.Machine
end

