-- ==== Sys2Proof/Config.lean ====
section
/-! DEFINITION. What the part fixes: queue sizes, counter ceilings, fixed codes and the ranges of its
settings; and the one choice the spec leaves open, a free value. -/

namespace Sys2Proof.Config

/-- Frames a transmit queue holds (R23). -/
def txQueueSize : Nat := 8
/-- Frames a receive buffer holds (R25). -/
def rxBufferSize : Nat := 2
/-- MARKs a mark backlog holds (R18). -/
def markBacklogSize : Nat := 4
/-- Entries an outstanding list holds (R60). -/
def outstandingSize : Nat := 4
/-- Orders the ingress queue holds (R164). -/
def ingressSize : Nat := 8
/-- Places of the urgent queue, the ANSWER reservation counted among them (R165). -/
def urgentSize : Nat := 32
/-- Reports the bulk queue holds (R166). -/
def bulkSize : Nat := 64
/-- The ceiling of the duplicate counter, the verdict counts and the uplink counters (R26, R119, R169). -/
def counterMax : Nat := 65535
/-- The ceiling of the bind count and of a member's result count (R35, R76). -/
def byteCounterMax : Nat := 255
/-- The spacing between two beacons, in ms (R189). -/
def beaconSpacing : Nat := 10
/-- The beacon interval after a reset, in ms (R195). -/
def beaconInterval : Nat := 1000
/-- The part code every BEACON carries (R191). -/
def partCode : Half := 0x0A16#16
/-- The revision every BEACON carries (R191). -/
def revision : Byte := 1#8
/-- The longest payload of a lane frame (R5). -/
def maxPayload : Nat := 240
/-- The most command bytes a STEP carries (R54). -/
def maxCommand : Nat := 200
/-- The longest identity the roster accepts (R34). -/
def maxIdentity : Nat := 24
/-- The shortest and the longest uplink frame, destination address through FCS (R158). -/
def minEthernet : Nat := 64
/-- See `minEthernet`. -/
def maxEthernet : Nat := 1518
/-- The data bytes of the shortest uplink frame (R167). -/
def minData : Nat := 46
/-- One pause quantum in bit times (R160). -/
def quantumBits : Nat := 512
/-- One millisecond in bit times of the 100 Mb/s uplink (R158, R160). -/
def bitsPerMs : Nat := 100000
/-- Whether a beacon that an order's action made due enters ahead of the order's ANSWER, choice by choice. The spec
says only that it may (R194), so nothing says what this is (assumption 22). -/
opaque beaconFirst : Nat → Bool

end Sys2Proof.Config
end

