-- ==== Sys2Proof/Machine/State.lean ====
section
/-! DEFINITION. The state of the part, block by block as the scope chapter lists the blocks, the reports that
wait in its egress queues, the reasons a step can stop, and the state after reset. -/

namespace Sys2Proof.Machine

open Sys2Proof

/-! ### Lane links -/

/-- Lane state (section 2.2 of the spec). -/
inductive LaneState where
  | off | empty | seated | bound | held | stalled
  deriving DecidableEq, Repr

/-- The state a STALLED lane left (R46). -/
inductive ResumeState where
  | seated | bound | held
  deriving DecidableEq, Repr

/-- The code of a MARK (R197). -/
inductive MarkCode where
  | taken | again | spoilt
  deriving DecidableEq, Repr

/-- The kind of a control frame (R24). -/
inductive ControlKind where
  | grant | revoke | deny
  deriving DecidableEq, Repr

/-- A frame of the control slot: a GRANT, REVOKE or DENY and the instrument it names (R14, R24). -/
structure ControlFrame where
  kind       : ControlKind
  instrument : InstrumentId
  deriving DecidableEq, Repr

/-- A frame of the transmit queue: a DO with its step ID, tag and command bytes, or a PASS-ON (R14, R23). -/
inductive QueuedFrame where
  | doStep (stepId : Half) (tag : Byte) (command : List Byte)
  | passOn (payload : List Byte)
  deriving DecidableEq, Repr

/-- A frame of the part's own, from either holder (R19). -/
inductive OwnFrame where
  | queued (frame : QueuedFrame)
  | control (frame : ControlFrame)
  deriving DecidableEq, Repr

/-- The send phase of the frame in flight (R19). The mark window runs exactly in AWAITING and the retry pause
exactly in PAUSED, so each phase holds its timer's remaining milliseconds. -/
inductive SendPhase where
  | sending
  | awaiting (markWindow : Nat)
  | paused (retryPause : Nat)
  | due
  deriving DecidableEq, Repr

/-- The frame in flight (R19). -/
structure InFlight where
  frame   : OwnFrame
  seq     : Byte
  resends : Nat
  phase   : SendPhase
  deriving DecidableEq, Repr

/-- A MARK the part owes (R18). -/
structure OwedMark where
  seq  : Byte
  code : MarkCode
  deriving DecidableEq, Repr

/-- A frame of the receive buffer, with the framing it arrived in (R25). -/
structure RxFrame where
  framing : Framing
  kind    : Byte
  seq     : Byte
  payload : List Byte
  deriving DecidableEq, Repr

/-- The receive hunt state, with what the receiver has kept of the frame it assembles (R10). -/
inductive Hunt where
  | hunt
  | sync
  | length (framing : Framing)
  | kind (framing : Framing) (length : Nat)
  | sequence (framing : Framing) (length : Nat) (kind : Byte)
  | payload (framing : Framing) (length : Nat) (kind seq : Byte) (got : List Byte)
  | check (framing : Framing) (kind seq : Byte) (payload : List Byte) (first : Option Byte)
  deriving DecidableEq, Repr

/-- The lane rates (R3). -/
inductive Rate where
  | baud115200 | baud921600 | baud3000000
  deriving DecidableEq, Repr

/-- The ten lane settings (R27). Times in ms, the announce limit in s. -/
structure LaneSettings where
  enabled       : Bool
  rate          : Rate
  markWindow    : Nat
  retryPause    : Nat
  retryLimit    : Nat
  gapLimit      : Nat
  debounceTime  : Nat
  announceLimit : Nat
  autoPower     : Bool
  rejectEnable  : Bool
  deriving DecidableEq, Repr

/-- The defaults of R27. -/
def LaneSettings.default : LaneSettings :=
  { enabled := true, rate := .baud921600, markWindow := 20, retryPause := 10, retryLimit := 8,
    gapLimit := 5, debounceTime := 50, announceLimit := 30, autoPower := false, rejectEnable := true }

/-- The announce timer: stopped, running with the milliseconds left, or expired (R42). -/
inductive AnnounceTimer where
  | stopped
  | running (left : Nat)
  | expired
  deriving DecidableEq, Repr

/-- An entry of a lane's outstanding list: a step by its ID and its record index (R60). -/
structure OutEntry where
  stepId : Half
  record : RecordId
  deriving DecidableEq, Repr

/-! ### Verdicts -/

/-- Verdicts, in the order of R1. -/
inductive Verdict where
  | none | pass | marginal | fail
  deriving DecidableEq, Repr

/-- The reasons a limit entry fails for (R112). -/
inductive FailReason where
  | missingField | badField | clamped | digest | entry
  deriving DecidableEq, Repr

/-- A first failure: the judge writes all four parts, a duplicate hold the reason DUPLICATE_IDENTITY alone
(R119). -/
inductive FirstFailure where
  | judged (stepId : Half) (tag : Byte) (reason : FailReason) (index : LimitId)
  | duplicateIdentity
  deriving DecidableEq, Repr

/-- The verdict record of a lane (R119). -/
structure VerdictRecord where
  verdict       : Verdict
  passCount     : Nat
  marginalCount : Nat
  failCount     : Nat
  firstFailure  : Option FirstFailure
  latch         : Bool
  deriving DecidableEq, Repr

/-- The empty record with a clear latch (R119). -/
def VerdictRecord.reset : VerdictRecord :=
  { verdict := .none, passCount := 0, marginalCount := 0, failCount := 0, firstFailure := .none,
    latch := false }

/-! ### One lane: lane engine, roster and verdict board items of one pocket -/

/-- All that is held per lane. A running timer holds the milliseconds left. `txBusy` and `txLine` are the
model's own: `txBusy` says that the transmitter is shifting out a frame of the part's own, and `txLine` is
the frame the transmitter started last, byte by byte. KEY is pressed exactly while `keyPulse` runs (R134). -/
structure Lane where
  state       : LaneState
  mode        : Framing
  txQueue     : List QueuedFrame
  control     : Option ControlFrame
  inFlight    : Option InFlight
  marks       : List OwedMark
  rxBuffer    : List RxFrame
  txSeq       : Byte
  lastTaken   : Option Byte
  hunt        : Hunt
  gapTimer    : Option Nat
  dupCount    : Nat
  flags       : BitVec 12
  outstanding : List OutEntry
  settings    : LaneSettings
  rawSeat     : Bool
  seat        : Bool
  debounce    : Option Nat
  announce    : AnnounceTimer
  identity    : Option (List Byte)
  bindCount   : Nat
  resume      : Option ResumeState
  board       : VerdictRecord
  power       : Bool
  keyPulse    : Option Nat
  txBusy      : Bool
  txLine      : List Byte
  deriving DecidableEq, Repr

/-- A lane after reset, its raw SEAT level off (R28, R26, R27, R30, R50, R72, R139). -/
def Lane.reset : Lane :=
  { state := .off, mode := .app, txQueue := [], control := none, inFlight := none, marks := [],
    rxBuffer := [], txSeq := 0#8, lastTaken := none, hunt := .hunt, gapTimer := none, dupCount := 0,
    flags := 0#12, outstanding := [], settings := .default, rawSeat := false, seat := false,
    debounce := none, announce := .stopped, identity := none, bindCount := 0, resume := none,
    board := .reset, power := false, keyPulse := none, txBusy := false, txLine := [] }

/-! ### Step unit -/

/-- State of a step record (R51). -/
inductive RecordState where
  | free | opened | closing
  deriving DecidableEq, Repr

/-- Member outcomes (section 3.5 of the spec). -/
inductive MemberOutcome where
  | pending | partialAnswer | answered | skipped | overrun | undelivered | lost | gone | expired | aborted
  deriving DecidableEq, Repr

/-- Close causes (R67). -/
inductive CloseCause where
  | complete | deadline | aborted
  deriving DecidableEq, Repr

/-- A member entry (R51). -/
structure Member where
  outcome : MemberOutcome
  verdict : Verdict
  count   : Nat
  stat    : Option Int
  deriving DecidableEq, Repr

/-- A step record (R51). In a FREE record `stepId` is the last ID, or absent. A lane is a member where
`members` holds an entry for it. -/
structure StepRecord where
  state      : RecordState
  stepId     : Option Half
  stream     : Bool
  deadline   : Option Nat
  limitGroup : Byte
  statEntry  : Option LimitId
  tag        : Byte
  command    : List Byte
  members    : Vector (Option Member) 16
  cause      : Option CloseCause
  deriving DecidableEq, Repr

/-- A step record after reset (R72). -/
def StepRecord.reset : StepRecord :=
  { state := .free, stepId := none, stream := false, deadline := none, limitGroup := 0#8,
    statEntry := none, tag := 0#8, command := [], members := Vector.replicate 16 none, cause := none }

/-! ### Judge -/

/-- A limit entry as stored (R94, R201): every field as its bytes were written, which in an invalid entry may
be any bytes. -/
structure LimitEntry where
  valid      : Bool
  group      : Byte
  tag        : Byte
  fieldIndex : Byte
  kind       : Byte
  severity   : Byte
  exponent   : Byte
  low        : Quad
  high       : Quad
  guard      : Quad
  digest     : Half
  deriving DecidableEq, Repr

/-- A limit entry after reset (R94). -/
def LimitEntry.reset : LimitEntry :=
  { valid := false, group := 0#8, tag := 0#8, fieldIndex := 0#8, kind := 0#8, severity := 0#8,
    exponent := 0#8, low := 0#32, high := 0#32, guard := 0#32, digest := 0#16 }

/-! ### Instrument arbiter -/

/-- An instrument record (R140). -/
structure Instrument where
  enabled     : Bool
  holder      : Option LaneId
  holdLimit   : Nat
  holdTimer   : Option Nat
  waiting     : LaneSet
  lastGranted : LaneId
  revoked     : LaneSet
  deriving DecidableEq, Repr

/-- An instrument record after reset (R157). -/
def Instrument.reset : Instrument :=
  { enabled := false, holder := none, holdLimit := 0, holdTimer := none, waiting := 0#16,
    lastGranted := 15, revoked := 0#16 }

/-! ### Orders and reports -/

/-- An order of the ingress queue (R164): message kind, order number, declared body length and the body bytes
present, cut at the declared length. -/
structure Order where
  kind     : Byte
  number   : Half
  declared : Nat
  body     : List Byte
  deriving DecidableEq, Repr

/-- The refusal codes (R172). LIMIT_INVALID carries the table index of the first failing image (R98). -/
inductive RefusalCode where
  | notStarted | badOrder | badValue | tableFull | duplicateStep | unknownStep | laneState | queueFull
  | limitInvalid (index : Nat)
  | bounds
  deriving DecidableEq, Repr

/-- Tables of LOAD and READ (R182). -/
inductive Table where
  | limit | group | roster | board
  deriving DecidableEq, Repr

/-- The selected report of the beacon (R193). -/
inductive Selection where
  | verdicts | flags | instruments | steps
  deriving DecidableEq, Repr

/-- What an ANSWER carries beyond its order kind: a refusal code, or OK with the data of R203. A list over
lanes has one place per lane, `none` where the lane is outside the order's lane set. -/
inductive AnswerBody where
  | refused (code : RefusalCode)
  | okStep (deadline : Nat) (members pending skipped overrun : LaneSet)
  | okAbort (aborted : Nat)
  | okExtend (count : Nat)
  | okRelay (frames : Nat)
  | okLine (state : LaneState) (power key : Bool) (keyLeft : Nat) (reject seat : Bool)
  | okLaneSet (settings : LaneSettings) (state : LaneState)
  | okInstrumentSet (enabled : Bool) (holdLimit : Nat) (revoked : Option LaneId) (denied : LaneSet)
  | okBeaconSet (interval : Nat) (mask : BitVec 9) (selection : Selection)
  | okLoad (table : Table) (start count : Byte)
  | okRead (table : Table) (start count : Byte) (images : List Byte)
  | okClearVerdict (latches : List (Option Bool))
  | okUnlatch (verdicts : List (Option Verdict))
  | okClearFlags (flags : List (Option (BitVec 12 × Nat)))
  | okResume (state : LaneState)
  | okStart (states : List LaneState)
  deriving DecidableEq, Repr

/-- Departure causes (R43). -/
inductive DepartCause where
  | sense | disabled | swapped
  deriving DecidableEq, Repr

/-- Instrument events (R155). -/
inductive InstrumentEvent where
  | granted | released | revoked | dropped
  deriving DecidableEq, Repr

/-- The table a beacon carries (R193). -/
inductive SelectedTable where
  | verdicts (rows : List (Verdict × Bool × Bool))
  | flags (rows : List (BitVec 12 × Nat))
  | instruments (rows : List (Bool × Option LaneId × Nat × LaneSet))
  | steps (rows : List (Half × RecordState × Nat × Nat × Nat))
  deriving DecidableEq, Repr

/-- What a BEACON carries, but for the fixed part code and revision (R191). -/
structure BeaconBody where
  heartbeat    : Bool
  startup      : Bool
  station      : BitVec 4
  laneStates   : List LaneState
  events       : List (BitVec 9)
  fcsDrops     : Nat
  ingressDrops : Nat
  urgentDrops  : Nat
  bulkDrops    : Nat
  openSteps    : Nat
  closing      : Nat
  selected     : SelectedTable
  deriving DecidableEq, Repr

/-- A report of the urgent queue (R165). -/
inductive UrgentReport where
  | answer (number : Half) (kind : Byte) (body : AnswerBody)
  | beacon (body : BeaconBody)
  | departure (lane : LaneId) (cause : DepartCause) (identity : Option (List Byte)) (bindCount : Nat)
      (board : VerdictRecord)
  | instrument (instrument : InstrumentId) (event : InstrumentEvent) (lane : LaneId) (holdLimit : Nat)
      (waiting : LaneSet)
  deriving DecidableEq, Repr

/-- The class of a TEXT report's lane stamp (R79); COPY is a report of its own. -/
inductive TextClass where
  | text | loader | stray | late
  deriving DecidableEq, Repr

/-- The statistic fields of a summary with a count above 0 (R89). -/
structure Statistics where
  count   : Nat
  minimum : Int
  maximum : Int
  mean    : Int
  deriving DecidableEq, Repr

/-- What a SUMMARY carries (R88). -/
structure SummaryBody where
  stepId  : Half
  cause   : CloseCause
  tag     : Byte
  members : List (LaneId × Member)
  stats   : Option Statistics
  deriving DecidableEq, Repr

/-- A report of the bulk queue (R166). -/
inductive BulkReport where
  | summary (body : SummaryBody)
  | copy (lane : LaneId) (verdict : Verdict) (count : Nat) (payload : List Byte)
  | text (lane : LaneId) (textClass : TextClass) (kind seq : Byte) (payload : List Byte)
  deriving DecidableEq, Repr

/-! ### The whole part -/

/-- The state of the part and the queue of commands that wait for it. -/
structure State where
  /-- Lane engines, roster and verdict board, lane by lane. -/
  lanes          : Vector Lane 16
  /-- Lane dispatcher: the lane served last (R48). -/
  pointer        : LaneId
  /-- Step unit: step table, free order, groups 1 to 31 (group `g` at index `g - 1`), closing list. -/
  records        : Vector StepRecord 32
  freeOrder      : List RecordId
  groups         : Vector LaneSet 31
  closing        : List RecordId
  /-- Judge: limit table. -/
  limits         : Vector LimitEntry 256
  /-- Instrument arbiter. -/
  instruments    : Vector Instrument 4
  /-- Uplink port: station number, host address (six bytes as sent), link status (true is up). -/
  station        : BitVec 4
  hostAddress    : Option (List Byte)
  linkUp         : Bool
  ingress        : List Order
  urgent         : List UrgentReport
  answerReserved : Bool
  bulk           : List BulkReport
  /-- The bulk hold timer: the bit times left while it runs (one quantum is 512 bit times, R160). -/
  bulkHold       : Option Nat
  fcsDrops       : Nat
  ingressDrops   : Nat
  urgentDrops    : Nat
  bulkDrops      : Nat
  /-- The model's own: the report frame the uplink transmitter started last, byte by byte. -/
  uplinkLine     : List Byte
  /-- Order unit. -/
  startup        : Bool
  currentOrder   : Option Order
  /-- Beacon unit. The holding set has one word of event kinds per lane (R187, R196). -/
  heartbeat      : Bool
  holding        : Vector (BitVec 9) 16
  noticeMask     : BitVec 9
  selection      : Selection
  interval       : Nat
  intervalTimer  : Option Nat
  spacingTimer   : Option Nat
  earlyRequest   : Bool
  beaconDue      : Bool
  /-- The model's own: how many of R194's choices have been made, so that each is free anew. -/
  choices        : Nat
  /-- The commands that wait, first in, first out. -/
  pending        : List Instr
  deriving DecidableEq, Repr

/-- The reasons a command can stop the part with a fault. The spec gives every command an effect in every
state, so no meaning raises one. -/
inductive Fault where
  /-- Raised by no meaning. Safe: a model that raised it would stop where the part goes on. -/
  | unreachable
  deriving DecidableEq, Repr

/-- The reasons a command can be refused. -/
inductive Refusal where
  /-- Raised by a dispatch arm whose command has no meaning yet; no arm of this model. Safe. -/
  | notModelled (mnemonic : String)
  deriving DecidableEq, Repr

/-- The part after power-on with the strap pins at 0 and every SEAT input off (R178): STARTUP set, every lane
OFF, the first beacon due, and nothing waiting. -/
def State.reset : State :=
  { lanes := Vector.replicate 16 Lane.reset
    pointer := 15
    records := Vector.replicate 32 StepRecord.reset
    freeOrder := List.finRange 32
    groups := Vector.replicate 31 0#16
    closing := []
    limits := Vector.replicate 256 LimitEntry.reset
    instruments := Vector.replicate 4 Instrument.reset
    station := 0#4
    hostAddress := none
    linkUp := false
    ingress := []
    urgent := []
    answerReserved := false
    bulk := []
    bulkHold := none
    fcsDrops := 0
    ingressDrops := 0
    urgentDrops := 0
    bulkDrops := 0
    uplinkLine := []
    startup := true
    currentOrder := none
    heartbeat := false
    holding := Vector.replicate 16 0#9
    noticeMask := 0#9
    selection := .verdicts
    interval := Config.beaconInterval
    intervalTimer := none
    spacingTimer := none
    earlyRequest := false
    beaconDue := true
    choices := 0
    pending := [] }

end Sys2Proof.Machine
end

