-- ==== Sys2Proof/Machine/Flags.lean ====
section
/-! DEFINITION. The lane error flags, the event kinds, lane sets and the order of verdicts: every flag word of
the part and the functions that read and write its bits. -/

namespace Sys2Proof.Machine

open Sys2Proof

/-! ### Lane error flags (R26) -/

/-- The twelve lane error flags, in the order of R26's table. -/
inductive LaneFlag where
  | sendFailed | txSpoilt | rxCheck | truncated | noise | stray | late | badTag | badHello | mute
  | holdOver | lateRelease
  deriving DecidableEq, Repr

/-- The bit of a flag: SEND_FAILED is bit 0, LATE_RELEASE bit 11 (R196). -/
def LaneFlag.bit : LaneFlag → Nat
  | .sendFailed => 0 | .txSpoilt => 1 | .rxCheck => 2 | .truncated => 3 | .noise => 4 | .stray => 5
  | .late => 6 | .badTag => 7 | .badHello => 8 | .mute => 9 | .holdOver => 10 | .lateRelease => 11

/-- Whether a flag is set in a flag word. -/
def hasFlag (w : BitVec 12) (f : LaneFlag) : Bool := w.getLsbD f.bit

/-- A flag word with one flag set; setting a set flag changes nothing (R26). -/
def withFlag (w : BitVec 12) (f : LaneFlag) : BitVec 12 := w ||| BitVec.twoPow 12 f.bit

/-! ### Event kinds (R187) -/

/-- The nine event kinds. -/
inductive EventKind where
  | seated | departed | bound | rebound | held | stalled | mute | loader | instrument
  deriving DecidableEq, Repr

/-- The bit of an event kind (R196). -/
def EventKind.bit : EventKind → Nat
  | .seated => 0 | .departed => 1 | .bound => 2 | .rebound => 3 | .held => 4 | .stalled => 5 | .mute => 6
  | .loader => 7 | .instrument => 8

/-- Whether a word of event kinds holds a kind. -/
def hasEvent (w : BitVec 9) (k : EventKind) : Bool := w.getLsbD k.bit

/-- A word of event kinds with one kind added; a kind already there stays as it is (R187). -/
def withEvent (w : BitVec 9) (k : EventKind) : BitVec 9 := w ||| BitVec.twoPow 9 k.bit

/-! ### Lane sets (R196) -/

/-- Whether a lane is in a lane set. -/
def inSet (w : LaneSet) (i : LaneId) : Bool := w.getLsbD i.val

/-- A lane set with one lane added. -/
def addLane (w : LaneSet) (i : LaneId) : LaneSet := w ||| BitVec.twoPow 16 i.val

/-- A lane set with one lane removed. -/
def removeLane (w : LaneSet) (i : LaneId) : LaneSet := w &&& ~~~ BitVec.twoPow 16 i.val

/-- The lane set of the lanes that satisfy a test. -/
def laneSetOf (p : LaneId → Bool) : LaneSet :=
  laneIds.foldl (fun w i => if p i then addLane w i else w) 0#16

/-! ### Verdicts (R1) -/

/-- The place of a verdict in the order NONE < PASS < MARGINAL < FAIL (R1). -/
def Verdict.rank : Verdict → Nat
  | .none => 0 | .pass => 1 | .marginal => 2 | .fail => 3

/-- The worse of two verdicts: the later in the order of R1. -/
def Verdict.worse (a b : Verdict) : Verdict := if a.rank < b.rank then b else a

/-- A counter one further, stopping at its maximum (R2). -/
def satIncr (max n : Nat) : Nat := if n < max then n + 1 else n

/-! ### Lane states -/

/-- SEATED, BOUND, HELD and STALLED: the states of a lane that holds a phone. -/
def LaneState.occupied : LaneState → Bool
  | .seated | .bound | .held | .stalled => true
  | .off | .empty => false

/-- The states that serve the part's own frames (R4). -/
def LaneState.servesOwn : LaneState → Bool
  | .seated | .bound | .held => true
  | .off | .empty | .stalled => false

/-- PENDING and PARTIAL are the owing outcomes (section 3.5 of the spec). -/
def MemberOutcome.owing : MemberOutcome → Bool
  | .pending | .partialAnswer => true
  | .answered | .skipped | .overrun | .undelivered | .lost | .gone | .expired | .aborted => false

/-- The REJECT output: driven exactly when the latch is set, or the verdict is FAIL and reject enable is set
(R129). -/
def Lane.reject (l : Lane) : Bool :=
  l.board.latch || (l.board.verdict == .fail && l.settings.rejectEnable)

end Sys2Proof.Machine
end

