-- ==== Sys2Proof/Machine/Layout.lean ====
section
/-! DEFINITION. The layouts chapter (R196 to R203) for everything the part sends: codes, lane frames, the
envelope and the report bodies. -/

namespace Sys2Proof.Machine

open Sys2Proof

/-! ### Codes (R196) -/

/-- A lane number as sent, 1 to 16. -/
def laneByte (i : LaneId) : Byte := byteOf (i.val + 1)

/-- An instrument number as sent, 1 to 4. -/
def instrumentByte (k : InstrumentId) : Byte := byteOf (k.val + 1)

/-- Verdict codes. -/
def Verdict.code : Verdict → Byte
  | .none => 0x00#8 | .pass => 0x01#8 | .marginal => 0x02#8 | .fail => 0x03#8

/-- Lane state codes. -/
def LaneState.code : LaneState → Byte
  | .off => 0x00#8 | .empty => 0x01#8 | .seated => 0x02#8 | .bound => 0x03#8 | .held => 0x04#8
  | .stalled => 0x05#8

/-- A resume state under its lane state code, FFh when absent (R203). -/
def resumeByte : Option ResumeState → Byte
  | some .seated => 0x02#8 | some .bound => 0x03#8 | some .held => 0x04#8 | none => 0xFF#8

/-- Lane mode codes. -/
def modeByte : Framing → Byte
  | .app => 0x00#8 | .loader => 0x01#8

/-- Outcome codes. -/
def MemberOutcome.code : MemberOutcome → Byte
  | .pending => 0x00#8 | .partialAnswer => 0x01#8 | .answered => 0x02#8 | .skipped => 0x03#8
  | .overrun => 0x04#8 | .undelivered => 0x05#8 | .lost => 0x06#8 | .gone => 0x07#8 | .expired => 0x08#8
  | .aborted => 0x09#8

/-- Close cause codes. -/
def CloseCause.code : CloseCause → Byte
  | .complete => 0x00#8 | .deadline => 0x01#8 | .aborted => 0x02#8

/-- Departure cause codes. -/
def DepartCause.code : DepartCause → Byte
  | .sense => 0x00#8 | .disabled => 0x01#8 | .swapped => 0x02#8

/-- Failure reason codes of the judge's reasons; DUPLICATE_IDENTITY is 06h. -/
def FailReason.code : FailReason → Byte
  | .missingField => 0x01#8 | .badField => 0x02#8 | .clamped => 0x03#8 | .digest => 0x04#8
  | .entry => 0x05#8

/-- Lane stamp class codes of TEXT reports; COPY is 04h. -/
def TextClass.code : TextClass → Byte
  | .text => 0x00#8 | .loader => 0x01#8 | .stray => 0x02#8 | .late => 0x03#8

/-- Instrument event codes. -/
def InstrumentEvent.code : InstrumentEvent → Byte
  | .granted => 0x00#8 | .released => 0x01#8 | .revoked => 0x02#8 | .dropped => 0x03#8

/-- Selected report codes. -/
def Selection.code : Selection → Byte
  | .verdicts => 0x00#8 | .flags => 0x01#8 | .instruments => 0x02#8 | .steps => 0x03#8

/-- Table codes. -/
def Table.code : Table → Byte
  | .limit => 0x01#8 | .group => 0x02#8 | .roster => 0x03#8 | .board => 0x04#8

/-- Result codes of refusals; OK is 00h. -/
def RefusalCode.code : RefusalCode → Byte
  | .notStarted => 0x01#8 | .badOrder => 0x02#8 | .badValue => 0x03#8 | .tableFull => 0x04#8
  | .duplicateStep => 0x05#8 | .unknownStep => 0x06#8 | .laneState => 0x07#8 | .queueFull => 0x08#8
  | .limitInvalid _ => 0x09#8 | .bounds => 0x0A#8

/-- Rate codes of LANE-SET (R202). -/
def Rate.code : Rate → Byte
  | .baud115200 => 0x00#8 | .baud921600 => 0x01#8 | .baud3000000 => 0x02#8

/-- MARK codes (R197). -/
def MarkCode.code : MarkCode → Byte
  | .taken => 0x00#8 | .again => 0x01#8 | .spoilt => 0x02#8

/-- Kind codes of the control frames (R197). -/
def ControlKind.code : ControlKind → Byte
  | .grant => 0x03#8 | .revoke => 0x04#8 | .deny => 0x05#8

/-- Kind codes of the phone-to-part frames and of MARK (R197). -/
def kindHello : Byte := 0x10#8
/-- RESULT. -/
def kindResult : Byte := 0x11#8
/-- TEXT. -/
def kindText : Byte := 0x12#8
/-- CLAIM. -/
def kindClaim : Byte := 0x13#8
/-- RELEASE. -/
def kindRelease : Byte := 0x14#8
/-- MARK. -/
def kindMark : Byte := 0x20#8

/-! ### Lane frames (R5, R197) -/

/-- The second sync byte of a framing (R7). -/
def syncByte : Framing → Byte
  | .app => 0xC3#8 | .loader => 0x3C#8

/-- A lane frame byte by byte (R5, R6, R197). -/
def laneFrameBytes (framing : Framing) (kind seq : Byte) (payload : List Byte) : List Byte :=
  [0x5A#8, syncByte framing, byteOf payload.length, kind, seq] ++ payload ++ le16 (checkWord kind seq payload)

/-- The kind byte of a frame of the part's own (R197). -/
def OwnFrame.kind : OwnFrame → Byte
  | .queued (.doStep _ _ _) => 0x01#8
  | .queued (.passOn _) => 0x02#8
  | .control c => c.kind.code

/-- The payload of a frame of the part's own (R14, R197). -/
def OwnFrame.payload : OwnFrame → List Byte
  | .queued (.doStep stepId tag command) => le16 stepId ++ tag :: command
  | .queued (.passOn payload) => payload
  | .control c => [instrumentByte c.instrument]

/-- A frame of the part's own as it goes out under a sequence (R19). -/
def ownFrameBytes (framing : Framing) (f : OwnFrame) (seq : Byte) : List Byte :=
  laneFrameBytes framing f.kind seq f.payload

/-- A MARK of the part's as it goes out, 00h in its own sequence field (R7). -/
def markFrameBytes (framing : Framing) (m : OwedMark) : List Byte :=
  laneFrameBytes framing kindMark 0x00#8 [m.seq, m.code.code]

/-! ### Images -/

/-- An identity in a length byte and 24 bytes, all 00h when absent (R196, R203). -/
def identityBytes (identity : Option (List Byte)) : List Byte :=
  byteOf (identity.getD []).length :: ((identity.getD []) ++ List.replicate 24 0x00#8).take 24

/-- A first failure in its form byte and four parts (R203). -/
def firstFailureBytes : Option FirstFailure → List Byte
  | none => [0x00#8, 0x00#8, 0x00#8, 0x00#8, 0x00#8, 0x00#8]
  | some (.judged stepId tag reason index) =>
    0x01#8 :: le16 stepId ++ [tag, reason.code, byteOf index.val]
  | some .duplicateIdentity => [0x02#8, 0x00#8, 0x00#8, 0x00#8, 0x06#8, 0x00#8]

/-- The 14-byte verdict record image (R203). -/
def boardBytes (v : VerdictRecord) : List Byte :=
  [v.verdict.code, levelByte v.latch] ++ le16Nat v.passCount ++ le16Nat v.marginalCount
    ++ le16Nat v.failCount ++ firstFailureBytes v.firstFailure

/-- A LIMIT image as READ returns it, 00h in its reserved byte (R200, R201). -/
def limitBytes (e : LimitEntry) : List Byte :=
  [levelByte e.valid, e.group, e.tag, e.fieldIndex, e.kind, e.severity, e.exponent, 0x00#8]
    ++ le32 e.low ++ le32 e.high ++ le32 e.guard ++ le16 e.digest

/-- The state and whole seconds of an announce timer (R183, R203). -/
def announceBytes : AnnounceTimer → List Byte
  | .stopped => [0x00#8, 0x00#8]
  | .running left => [0x01#8, byteOf (left / 1000)]
  | .expired => [0x02#8, 0x00#8]

/-- A 31-byte ROSTER image (R183, R203). -/
def rosterBytes (l : Lane) : List Byte :=
  [l.state.code, modeByte l.mode, byteOf l.bindCount, resumeByte l.resume] ++ announceBytes l.announce
    ++ identityBytes l.identity

/-- A 23-byte BOARD image (R138, R203). -/
def boardImageBytes (l : Lane) : List Byte :=
  boardBytes l.board ++ [levelByte l.power, levelByte l.keyPulse.isSome] ++ le16Nat (l.keyPulse.getD 0)
    ++ [levelByte l.reject, levelByte l.rawSeat, levelByte l.seat, levelByte l.settings.rejectEnable,
      levelByte l.settings.autoPower]

/-- The 15 setting bytes of a LANE-SET body from offset 1 (R202, R203). -/
def settingsBytes (t : LaneSettings) : List Byte :=
  [levelByte t.enabled, t.rate.code] ++ le16Nat t.markWindow ++ le16Nat t.retryPause
    ++ [byteOf t.retryLimit] ++ le16Nat t.gapLimit ++ le16Nat t.debounceTime ++ le16Nat t.announceLimit
    ++ [levelByte t.autoPower, levelByte t.rejectEnable]

/-! ### Report bodies (R199, R203) -/

/-- A lane by its number, 00h for none. -/
def laneOrZero : Option LaneId → Byte
  | some i => laneByte i
  | none => 0x00#8

/-- The result code and data of an ANSWER, from offset 1 of its body (R203). -/
def AnswerBody.bytes : AnswerBody → List Byte
  | .refused (.limitInvalid index) => [(RefusalCode.limitInvalid index).code, byteOf index]
  | .refused c => [c.code]
  | .okStep deadline members pending skipped overrun =>
    0x00#8 :: le16Nat deadline ++ le16 members ++ le16 pending ++ le16 skipped ++ le16 overrun
  | .okAbort aborted => [0x00#8, byteOf aborted]
  | .okExtend count => 0x00#8 :: le16Nat count
  | .okRelay frames => [0x00#8, byteOf frames]
  | .okLine state power key keyLeft reject seat =>
    [0x00#8, state.code, levelByte power, levelByte key] ++ le16Nat keyLeft
      ++ [levelByte reject, levelByte seat]
  | .okLaneSet settings state => 0x00#8 :: settingsBytes settings ++ [state.code]
  | .okInstrumentSet enabled holdLimit revoked denied =>
    [0x00#8, levelByte enabled] ++ le16Nat holdLimit ++ [laneOrZero revoked] ++ le16 denied
  | .okBeaconSet interval mask selection =>
    0x00#8 :: le16Nat interval ++ le16 (mask.setWidth 16) ++ [selection.code]
  | .okLoad table start count => [0x00#8, table.code, start, count]
  | .okRead table start count images => [0x00#8, table.code, start, count] ++ images
  | .okClearVerdict latches => 0x00#8 :: latches.map fun b => levelByte (b.getD false)
  | .okUnlatch verdicts => 0x00#8 :: verdicts.map fun v => (v.getD .none).code
  | .okClearFlags flags =>
    0x00#8 :: (flags.map fun f =>
      le16 ((f.getD (0#12, 0)).1.setWidth 16) ++ le16Nat (f.getD (0#12, 0)).2).flatten
  | .okResume state => [0x00#8, state.code]
  | .okStart states => 0x00#8 :: states.map LaneState.code

/-- The table of a beacon (R193, R203). -/
def SelectedTable.bytes : SelectedTable → List Byte
  | .verdicts rows => (rows.map fun r => [r.1.code, levelByte r.2.1, levelByte r.2.2]).flatten
  | .flags rows => (rows.map fun r => le16 (r.1.setWidth 16) ++ le16Nat r.2).flatten
  | .instruments rows =>
    (rows.map fun r => [levelByte r.1, laneOrZero r.2.1] ++ le16Nat r.2.2.1 ++ le16 r.2.2.2).flatten
  | .steps rows =>
    byteOf rows.length :: (rows.map fun r =>
      le16 r.1 ++ [levelByte (r.2.1 == .closing)] ++ le16Nat r.2.2.1
        ++ [byteOf r.2.2.2.1, byteOf r.2.2.2.2]).flatten

/-- The code of the selected report a table belongs to. -/
def SelectedTable.selection : SelectedTable → Selection
  | .verdicts _ => .verdicts
  | .flags _ => .flags
  | .instruments _ => .instruments
  | .steps _ => .steps

/-- A BEACON body (R191, R203). -/
def BeaconBody.bytes (b : BeaconBody) : List Byte :=
  [levelByte b.heartbeat, levelByte b.startup, b.station.setWidth 8, Config.revision]
    ++ le16 Config.partCode ++ b.laneStates.map LaneState.code
    ++ (b.events.map fun w => le16 (w.setWidth 16)).flatten
    ++ le16Nat b.fcsDrops ++ le16Nat b.ingressDrops ++ le16Nat b.urgentDrops ++ le16Nat b.bulkDrops
    ++ [byteOf b.openSteps, byteOf b.closing, b.selected.selection.code] ++ b.selected.bytes

/-- A four-byte signed field (R196). -/
def signedBytes (v : Int) : List Byte := le32 (BitVec.ofInt 32 v)

/-- The statistic fields of a SUMMARY from offset 5 (R89, R203). -/
def statisticsBytes : Option Statistics → List Byte
  | none => List.replicate 13 0x00#8
  | some t => byteOf t.count :: signedBytes t.minimum ++ signedBytes t.maximum ++ signedBytes t.mean

/-- A SUMMARY body (R88, R203). -/
def SummaryBody.bytes (b : SummaryBody) : List Byte :=
  le16 b.stepId ++ [b.cause.code, b.tag, byteOf b.members.length] ++ statisticsBytes b.stats
    ++ (b.members.map fun m =>
      [laneByte m.1, m.2.outcome.code, m.2.verdict.code, byteOf m.2.count]).flatten

/-- The body of an urgent report (R203). -/
def UrgentReport.body : UrgentReport → List Byte
  | .answer _ kind body => kind :: body.bytes
  | .beacon body => body.bytes
  | .departure lane cause identity bindCount board =>
    [laneByte lane, cause.code, byteOf bindCount] ++ identityBytes identity ++ boardBytes board
  | .instrument k event lane holdLimit waiting =>
    [instrumentByte k, event.code, laneByte lane] ++ le16Nat holdLimit ++ le16 waiting

/-- The message kind of an urgent report (R198). -/
def UrgentReport.kind : UrgentReport → Byte
  | .answer _ _ _ => 0x80#8
  | .beacon _ => 0x81#8
  | .departure _ _ _ _ _ => 0x82#8
  | .instrument _ _ _ _ _ => 0x83#8

/-- The envelope order number of an urgent report: an ANSWER's order number, else 0 (R167). -/
def UrgentReport.number : UrgentReport → Half
  | .answer number _ _ => number
  | .beacon _ | .departure _ _ _ _ _ | .instrument _ _ _ _ _ => 0#16

/-- The body of a bulk report (R199, R203). -/
def BulkReport.body : BulkReport → List Byte
  | .summary body => body.bytes
  | .copy lane verdict count payload => [laneByte lane, 0x04#8, verdict.code, byteOf count] ++ payload
  | .text lane textClass kind seq payload => [laneByte lane, textClass.code, kind, seq] ++ payload

/-- The message kind of a bulk report (R198). -/
def BulkReport.kind : BulkReport → Byte
  | .summary _ => 0x84#8
  | .copy _ _ _ _ => 0x85#8
  | .text _ _ _ _ _ => 0x86#8

/-! ### Uplink frames (R167, R198) -/

/-- The broadcast address (R159). -/
def broadcastAddress : List Byte := List.replicate 6 0xFF#8

/-- The flow control address 01-80-C2-00-00-01 (R160). -/
def flowControlAddress : List Byte := [0x01#8, 0x80#8, 0xC2#8, 0x00#8, 0x00#8, 0x01#8]

/-- The station address 02-48-4A-4F-00-0s (R161). -/
def stationAddress (station : BitVec 4) : List Byte :=
  [0x02#8, 0x48#8, 0x4A#8, 0x4F#8, 0x00#8, station.setWidth 8]

/-- The envelope of a report (R198). -/
def envelopeBytes (station : BitVec 4) (kind : Byte) (number : Half) (body : List Byte) : List Byte :=
  [station.setWidth 8, kind] ++ le16 number ++ le16Nat body.length ++ body

/-- Data padded with 00h up to the 46-byte minimum (R167). -/
def padded (data : List Byte) : List Byte := data ++ List.replicate (Config.minData - data.length) 0x00#8

/-- A report frame from destination address through FCS (R167). -/
def reportFrameBytes (destination : List Byte) (station : BitVec 4) (kind : Byte) (number : Half)
    (body : List Byte) : List Byte :=
  let covered := destination ++ stationAddress station ++ be16 0x88B5#16
    ++ padded (envelopeBytes station kind number body)
  covered ++ le32 (fcs covered)

end Sys2Proof.Machine
end

