-- ==== Sys2Proof/Machine/Operands.lean ====
section
/-! DEFINITION. What the part reads: uplink frames and their envelopes, order bodies with the checks of R172
that need no state, RESULT payloads and limit images. -/

namespace Sys2Proof.Machine

open Sys2Proof

/-! ### Uplink frames (R158 to R162) -/

/-- Destination address. -/
def frameDestination (f : List Byte) : List Byte := f.take 6

/-- Source address. -/
def frameSource (f : List Byte) : List Byte := (f.drop 6).take 6

/-- Type field, high byte first. -/
def frameType (f : List Byte) : Half := bigHalfAt f 12

/-- The data bytes between the type field and the FCS. -/
def frameData (f : List Byte) : List Byte := (f.take (f.length - 4)).drop 14

/-- Whether a frame is damaged: its length, a receive error or its FCS (R158). -/
def frameDamaged (f : List Byte) (rxError : Bool) : Bool :=
  rxError || decide (f.length < Config.minEthernet) || decide (Config.maxEthernet < f.length)
    || f.drop (f.length - 4) != le32 (fcs (f.take (f.length - 4)))

/-- Whether a frame meets R160's description of a PAUSE flow control frame. -/
def isPauseFrame (station : BitVec 4) (f : List Byte) : Bool :=
  (frameDestination f == flowControlAddress || frameDestination f == stationAddress station)
    && frameType f == 0x8808#16 && bigHalfAt f 14 == 0x0001#16

/-- The pause time of a flow control frame in quanta (R160). -/
def pauseQuanta (f : List Byte) : Nat := (bigHalfAt f 16).toNat

/-- The filter of R159: destination broadcast or the station address, source an individual address other than
the part's own, type 88B5h. -/
def passesFilter (station : BitVec 4) (f : List Byte) : Bool :=
  (frameDestination f == broadcastAddress || frameDestination f == stationAddress station)
    && !(byteAt (frameSource f) 0).getLsbD 0 && frameSource f != stationAddress station
    && frameType f == 0x88B5#16

/-- The order a frame's envelope carries, unless the station number differs or the kind is a report kind
(R162, R198). Data past the declared body length is padding. -/
def envelopeOrder (station : BitVec 4) (f : List Byte) : Option Order :=
  let d := frameData f
  if byteAt d 0 != station.setWidth 8 || (byteAt d 1).getLsbD 7 then none
  else some
    { kind := byteAt d 1, number := halfAt d 2, declared := (halfAt d 4).toNat,
      body := (d.drop 6).take (halfAt d 4).toNat }

/-! ### Order kinds (R198) -/

/-- Message kinds 01h to 10h. -/
inductive OrderKind where
  | step | abort | extend | relay | line | laneSet | instrumentSet | beaconSet | load | read | clearVerdict
  | unlatch | clearFlags | resume | start | reset
  deriving DecidableEq, Repr

/-- The code of an order kind. -/
def OrderKind.code : OrderKind → Byte
  | .step => 0x01#8 | .abort => 0x02#8 | .extend => 0x03#8 | .relay => 0x04#8 | .line => 0x05#8
  | .laneSet => 0x06#8 | .instrumentSet => 0x07#8 | .beaconSet => 0x08#8 | .load => 0x09#8
  | .read => 0x0A#8 | .clearVerdict => 0x0B#8 | .unlatch => 0x0C#8 | .clearFlags => 0x0D#8
  | .resume => 0x0E#8 | .start => 0x0F#8 | .reset => 0x10#8

/-- Whether an order is of a kind. -/
def Order.isKind (o : Order) (k : OrderKind) : Bool := o.kind == k.code

/-- Whether an order's kind is one of the sixteen. -/
def Order.known (o : Order) : Bool := decide (1 ≤ o.kind.toNat) && decide (o.kind.toNat ≤ 16)

/-- Whether the declared body length exceeds the body bytes present (R172). -/
def Order.truncated (o : Order) : Bool := decide (o.body.length < o.declared)

/-! ### Order bodies -/

/-- A lane number 1 to 16 as a lane. -/
def laneOfByte (b : Byte) : Option LaneId :=
  if h : 1 ≤ b.toNat ∧ b.toNat ≤ 16 then some ⟨b.toNat - 1, by omega⟩ else none

/-- An instrument number 1 to 4 as an instrument. -/
def instrumentOfByte (b : Byte) : Option InstrumentId :=
  if h : 1 ≤ b.toNat ∧ b.toNat ≤ 4 then some ⟨b.toNat - 1, by omega⟩ else none

/-- An on or off setting: 00h off, 01h on. -/
def levelOfByte (b : Byte) : Option Bool :=
  if b = 0x00#8 then some false else if b = 0x01#8 then some true else none

/-- A value brought into its range, to the nearer end (R174). -/
def clamp (lo hi n : Nat) : Nat := if n < lo then lo else if hi < n then hi else n

/-- The target of a STEP (R53). -/
inductive StepTarget where
  | lanes (set : LaneSet)
  | group (number : Nat)
  deriving DecidableEq, Repr

/-- A STEP order's fields, its deadline clamped (R54). -/
structure StepArgs where
  stepId     : Half
  target     : StepTarget
  stream     : Bool
  deadline   : Nat
  limitGroup : Byte
  statEntry  : Option LimitId
  tag        : Byte
  command    : List Byte
  deriving DecidableEq, Repr

/-- The statistic entry field of a STEP: 0000h to 00FFh is the index, any other value none (R200). -/
def statEntryOf (w : Half) : Option LimitId :=
  if h : w.toNat < 256 then some ⟨w.toNat, h⟩ else none

/-- The body form and value checks of a STEP body (R54, R200). -/
def parseStep (b : List Byte) : Except RefusalCode StepArgs :=
  if b.length < 13 ∨ b.length ≠ 13 + (byteAt b 12).toNat then .error .badOrder
  else if halfAt b 0 = 0#16 ∨ 1 < (byteAt b 2).toNat ∨ 63 < (byteAt b 8).toNat
      ∨ (byteAt b 2 = 0x01#8 ∧ 31 < (byteAt b 3).toNat) ∨ 1 < (byteAt b 5).toNat
      ∨ Config.maxCommand < (byteAt b 12).toNat then .error .badValue
  else .ok
    { stepId := halfAt b 0
      target := if byteAt b 2 = 0x00#8 then .lanes (halfAt b 3) else .group (byteAt b 3).toNat
      stream := byteAt b 5 == 0x01#8
      deadline := clamp 1 65535 (halfAt b 6).toNat
      limitGroup := byteAt b 8
      statEntry := statEntryOf (halfAt b 9)
      tag := byteAt b 11
      command := b.drop 13 }

/-- The body of an ABORT: a step ID (R64, R202). -/
def parseAbort (b : List Byte) : Except RefusalCode Half :=
  if b.length ≠ 2 then .error .badOrder
  else if halfAt b 0 = 0#16 then .error .badValue
  else .ok (halfAt b 0)

/-- The body of an EXTEND: a step ID and the new count, clamped (R62, R202). -/
def parseExtend (b : List Byte) : Except RefusalCode (Half × Nat) :=
  if b.length ≠ 4 then .error .badOrder
  else if halfAt b 0 = 0#16 then .error .badValue
  else .ok (halfAt b 0, clamp 1 65535 (halfAt b 2).toNat)

/-- The body of a RELAY: a lane and a payload (R184, R202). -/
def parseRelay (b : List Byte) : Except RefusalCode (LaneId × List Byte) :=
  if b.length < 2 ∨ b.length ≠ 2 + (byteAt b 1).toNat then .error .badOrder
  else if Config.maxPayload < (byteAt b 1).toNat then .error .badValue
  else match laneOfByte (byteAt b 0) with
    | none => .error .badValue
    | some i => .ok (i, b.drop 2)

/-- The POWER action of a LINE order: none is LEAVE (R137). -/
def powerActionOf (b : Byte) : Option (Option Bool) :=
  if b = 0x00#8 then some none else if b = 0x01#8 then some (some true)
  else if b = 0x02#8 then some (some false) else none

/-- A LINE order's fields (R137): `power` none is LEAVE, `pulse` none is LEAVE. -/
structure LineArgs where
  lane  : LaneId
  power : Option Bool
  pulse : Option Nat
  deriving DecidableEq, Repr

/-- The body of a LINE (R137, R200). -/
def parseLine (b : List Byte) : Except RefusalCode LineArgs :=
  if b.length ≠ 5 then .error .badOrder
  else match laneOfByte (byteAt b 0), powerActionOf (byteAt b 1), levelOfByte (byteAt b 2) with
    | some i, some power, some key =>
      .ok { lane := i, power := power, pulse := if key then some (halfAt b 3).toNat else none }
    | _, _, _ => .error .badValue

/-- A LANE-SET order's fields (R179, R202): `none` is LEAVE; timing fields and the retry limit are clamped. -/
structure LaneSetArgs where
  lane          : LaneId
  enable        : Option Bool
  rate          : Option Rate
  markWindow    : Option Nat
  retryPause    : Option Nat
  retryLimit    : Option Nat
  gapLimit      : Option Nat
  debounceTime  : Option Nat
  announceLimit : Option Nat
  autoPower     : Option Bool
  rejectEnable  : Option Bool
  deriving DecidableEq, Repr

/-- An on or off field of LANE-SET: FFh is LEAVE (R202). -/
def settingOfByte (b : Byte) : Option (Option Bool) :=
  if b = 0xFF#8 then some none else (levelOfByte b).map some

/-- The rate field of LANE-SET: FFh is LEAVE (R202). -/
def rateOfByte (b : Byte) : Option (Option Rate) :=
  if b = 0xFF#8 then some none else if b = 0x00#8 then some (some .baud115200)
  else if b = 0x01#8 then some (some .baud921600) else if b = 0x02#8 then some (some .baud3000000)
  else none

/-- A two-byte timing field of LANE-SET: FFFFh is LEAVE, any other value is clamped (R174, R202). -/
def timingOf (lo hi : Nat) (w : Half) : Option Nat :=
  if w = 0xFFFF#16 then none else some (clamp lo hi w.toNat)

/-- The retry limit field of LANE-SET: FFh is LEAVE, any other value is clamped to 15 (R202). -/
def retryLimitOf (b : Byte) : Option Nat := if b = 0xFF#8 then none else some (clamp 0 15 b.toNat)

/-- The body of a LANE-SET (R179, R202). -/
def parseLaneSet (b : List Byte) : Except RefusalCode LaneSetArgs :=
  if b.length ≠ 16 then .error .badOrder
  else match laneOfByte (byteAt b 0), settingOfByte (byteAt b 1), rateOfByte (byteAt b 2),
      settingOfByte (byteAt b 14), settingOfByte (byteAt b 15) with
    | some i, some enable, some rate, some autoPower, some rejectEnable =>
      .ok
        { lane := i, enable := enable, rate := rate
          markWindow := timingOf 1 255 (halfAt b 3)
          retryPause := timingOf 1 255 (halfAt b 5)
          retryLimit := retryLimitOf (byteAt b 7)
          gapLimit := timingOf 1 50 (halfAt b 8)
          debounceTime := timingOf 1 1000 (halfAt b 10)
          announceLimit := timingOf 1 255 (halfAt b 12)
          autoPower := autoPower, rejectEnable := rejectEnable }
    | _, _, _, _, _ => .error .badValue

/-- The body of an INSTRUMENT-SET: instrument, enabled, hold limit (R152, R202). -/
def parseInstrumentSet (b : List Byte) : Except RefusalCode (InstrumentId × Bool × Nat) :=
  if b.length ≠ 4 then .error .badOrder
  else match instrumentOfByte (byteAt b 0), levelOfByte (byteAt b 1) with
    | some k, some enabled => .ok (k, enabled, (halfAt b 2).toNat)
    | _, _ => .error .badValue

/-- A selected report code (R196). -/
def selectionOfByte (b : Byte) : Option Selection :=
  if b = 0x00#8 then some .verdicts else if b = 0x01#8 then some .flags
  else if b = 0x02#8 then some .instruments else if b = 0x03#8 then some .steps else none

/-- The body of a BEACON-SET: interval clamped, notice mask, selected report (R181, R202). -/
def parseBeaconSet (b : List Byte) : Except RefusalCode (Nat × BitVec 9 × Selection) :=
  if b.length ≠ 5 then .error .badOrder
  else if 511 < (halfAt b 2).toNat then .error .badValue
  else match selectionOfByte (byteAt b 4) with
    | none => .error .badValue
    | some sel => .ok (clamp 10 10000 (halfAt b 0).toNat, (halfAt b 2).setWidth 9, sel)

/-- The body of CLEAR-VERDICT, UNLATCH and CLEAR-FLAGS: a lane set (R202). -/
def parseLaneSetOnly (b : List Byte) : Except RefusalCode LaneSet :=
  if b.length ≠ 2 then .error .badOrder else .ok (halfAt b 0)

/-- The body of a RESUME: a lane (R47, R202). -/
def parseResume (b : List Byte) : Except RefusalCode LaneId :=
  if b.length ≠ 1 then .error .badOrder
  else match laneOfByte (byteAt b 0) with
    | none => .error .badValue
    | some i => .ok i

/-- An empty body (R202). -/
def parseEmpty (b : List Byte) : Except RefusalCode Unit :=
  if b.length ≠ 0 then .error .badOrder else .ok ()

/-! ### LOAD and READ (R182, R200) -/

/-- A table code (R196). -/
def tableOfByte (b : Byte) : Option Table :=
  if b = 0x01#8 then some .limit else if b = 0x02#8 then some .group
  else if b = 0x03#8 then some .roster else if b = 0x04#8 then some .board else none

/-- The bytes of one image (R200, R203). -/
def Table.imageSize : Table → Nat
  | .limit => 22 | .group => 2 | .roster => 31 | .board => 23

/-- The first index of a table. -/
def Table.first : Table → Nat
  | .limit => 0 | .group => 0 | .roster => 1 | .board => 1

/-- The last index of a table. -/
def Table.last : Table → Nat
  | .limit => 255 | .group => 31 | .roster => 16 | .board => 16

/-- The largest count per order (R182). -/
def Table.largest : Table → Nat
  | .limit => 64 | .group => 32 | .roster => 16 | .board => 16

/-- Whether a table can be loaded (R182). -/
def Table.loadable : Table → Bool
  | .limit | .group => true
  | .roster | .board => false

/-- A LOAD or READ order's fields; `images` is empty for READ. -/
structure TableArgs where
  table  : Table
  start  : Byte
  count  : Byte
  images : List Byte
  deriving DecidableEq, Repr

/-- Image `k` of a LOAD. -/
def TableArgs.image (a : TableArgs) (k : Nat) : List Byte :=
  (a.images.drop (k * a.table.imageSize)).take a.table.imageSize

/-- The body form, value and bounds checks of a LOAD body (R182). A code that names no table has no image
size, so its length is not at fault and the code is refused with BAD_VALUE. -/
def parseLoad (b : List Byte) : Except RefusalCode TableArgs :=
  if b.length < 3 then .error .badOrder
  else match tableOfByte (byteAt b 0) with
    | none => .error .badValue
    | some t =>
      let start := (byteAt b 1).toNat
      let count := (byteAt b 2).toNat
      if b.length ≠ 3 + count * t.imageSize then .error .badOrder
      else if t.loadable = false ∨ count = 0 ∨ t.largest < count then .error .badValue
      else if start < t.first ∨ t.last < start + count - 1 ∨ (t = .group ∧ start = 0) then .error .bounds
      else .ok { table := t, start := byteAt b 1, count := byteAt b 2, images := b.drop 3 }

/-- The body form, value and bounds checks of a READ body (R182). -/
def parseRead (b : List Byte) : Except RefusalCode TableArgs :=
  if b.length ≠ 3 then .error .badOrder
  else match tableOfByte (byteAt b 0) with
    | none => .error .badValue
    | some t =>
      let start := (byteAt b 1).toNat
      let count := (byteAt b 2).toNat
      if count = 0 ∨ t.largest < count then .error .badValue
      else if start < t.first ∨ t.last < start + count - 1 then .error .bounds
      else .ok { table := t, start := byteAt b 1, count := byteAt b 2, images := [] }

/-! ### Limit images (R97, R200, R201) -/

/-- A limit image read by its layout. -/
def limitOfBytes (b : List Byte) : LimitEntry :=
  { valid := byteAt b 0 == 0x01#8, group := byteAt b 1, tag := byteAt b 2, fieldIndex := byteAt b 3,
    kind := byteAt b 4, severity := byteAt b 5, exponent := byteAt b 6, low := quadAt b 8,
    high := quadAt b 12, guard := quadAt b 16, digest := halfAt b 20 }

/-- The kinds of limit entry (R94). -/
inductive LimitKind where
  | range | outside | digest | present
  deriving DecidableEq, Repr

/-- The kind a kind code names, if any (R200). -/
def LimitEntry.kind? (e : LimitEntry) : Option LimitKind :=
  if e.kind = 0x00#8 then some .range else if e.kind = 0x01#8 then some .outside
  else if e.kind = 0x02#8 then some .digest else if e.kind = 0x03#8 then some .present else none

/-- Severity CRITICAL is code 01h (R200). -/
def LimitEntry.critical (e : LimitEntry) : Bool := e.severity == 0x01#8

/-- RANGE and OUTSIDE compare with bounds (R95). -/
def LimitEntry.bounded (e : LimitEntry) : Bool := e.kind? == some .range || e.kind? == some .outside

/-- The checks of R97 on the fields of a valid entry. -/
def LimitEntry.sound (e : LimitEntry) : Bool :=
  decide (1 ≤ e.group.toNat) && decide (e.group.toNat ≤ 63)
    && decide (-12 ≤ e.exponent.toInt) && decide (e.exponent.toInt ≤ 12)
    && decide (e.fieldIndex.toNat ≤ 7) && e.kind?.isSome && decide (e.severity.toNat ≤ 1)
    && decide (e.guard.toNat ≤ 2147483647)
    && (!e.bounded || (decide (e.low.toInt ≤ e.high.toInt)
      && decide (2 * (e.guard.toNat : Int) ≤ e.high.toInt - e.low.toInt)))

/-- Whether an image passes validation: its valid flag reads invalid, or it reads valid and the entry is sound
(R96, R97, R201). -/
def limitImagePasses (b : List Byte) : Bool :=
  byteAt b 0 == 0x00#8 || (byteAt b 0 == 0x01#8 && (limitOfBytes b).sound)

/-! ### RESULT payloads (R14, R15, R197) -/

/-- One measurement field (R14). -/
structure Field where
  value    : Int
  exponent : Int
  deriving DecidableEq, Repr

/-- A RESULT payload read by its layout. -/
structure ResultPayload where
  stepId : Half
  tag    : Byte
  final  : Bool
  fields : List Field
  blob   : List Byte
  deriving DecidableEq, Repr

/-- Field `k` of a RESULT payload. -/
def fieldAt (p : List Byte) (k : Nat) : Field :=
  { value := (quadAt p (5 + 5 * k)).toInt, exponent := (byteAt p (9 + 5 * k)).toInt }

/-- The fields and blob of a RESULT payload. -/
def resultOfPayload (p : List Byte) : ResultPayload :=
  let n := (byteAt p 4).toNat
  { stepId := halfAt p 0, tag := byteAt p 2, final := byteAt p 3 == 0x01#8,
    fields := (List.range n).map (fieldAt p), blob := p.drop (5 + 5 * n) }

/-- A malformed RESULT: payload under 5 bytes, field count over 8, payload short of its fields, or a final flag
other than 0 or 1 (R15). -/
def resultMalformed (p : List Byte) : Bool :=
  decide (p.length < 5) || decide (8 < (byteAt p 4).toNat)
    || decide (p.length < 5 + 5 * (byteAt p 4).toNat) || decide (1 < (byteAt p 3).toNat)

/-- A CLAIM or RELEASE payload that is not one byte naming an instrument (R15). -/
def instrumentMalformed (p : List Byte) : Bool :=
  p.length != 1 || (instrumentOfByte (byteAt p 0)).isNone

/-- The code of a MARK payload, if it is one of the three. -/
def markCodeOf (b : Byte) : Option MarkCode :=
  if b = 0x00#8 then some .taken else if b = 0x01#8 then some .again
  else if b = 0x02#8 then some .spoilt else none

/-- The marked sequence and code of a MARK payload; none where it is malformed (R15). -/
def markOfPayload (p : List Byte) : Option (Byte × MarkCode) :=
  if p.length = 2 then (markCodeOf (byteAt p 1)).map fun c => (byteAt p 0, c) else none

/-- Whether a frame other than a MARK is malformed in APP mode (R15). A HELLO and a TEXT never are. -/
def frameMalformed (kind : Byte) (p : List Byte) : Bool :=
  if kind = kindHello ∨ kind = kindText then false
  else if kind = kindResult then resultMalformed p
  else if kind = kindClaim ∨ kind = kindRelease then instrumentMalformed p
  else true

end Sys2Proof.Machine
end

