-- ==== Sys2Proof/Machine/Judge.lean ====
section
/-! DEFINITION. The judging arithmetic: rescaling, the checks of each kind of limit entry, the findings of a
RESULT, the summary statistics, and what the verdict board makes of the findings. -/

namespace Sys2Proof.Machine

open Sys2Proof

/-! ### Rescaling (R106 to R108) -/

/-- The least signed 32-bit value. -/
def int32Min : Int := -2147483648

/-- The greatest signed 32-bit value. -/
def int32Max : Int := 2147483647

/-- A quotient rounded to the nearest whole number, ties away from zero, worked on the magnitude (R108, R117). -/
def divRound (v : Int) (d : Nat) : Int :=
  let q := v.natAbs / d + (if d ≤ 2 * (v.natAbs % d) then 1 else 0)
  if v < 0 then -(q : Int) else q

/-- A rescaled value, and whether it had to be saturated (R106, R107). -/
structure Rescaled where
  value   : Int
  clamped : Bool
  deriving DecidableEq, Repr

/-- A product brought into the signed 32-bit range, marked CLAMPED when it lies outside (R107). -/
def saturate (p : Int) : Rescaled :=
  if int32Max < p then { value := int32Max, clamped := true }
  else if p < int32Min then { value := int32Min, clamped := true }
  else { value := p, clamped := false }

/-- The rescaled value of `v` for the exponent difference `d` (R106). -/
def rescale (v d : Int) : Rescaled :=
  if d = 0 then { value := v, clamped := false }
  else if 0 < d then saturate (v * 10 ^ d.toNat)
  else { value := divRound v (10 ^ (-d).toNat), clamped := false }

/-! ### Entry checks (R103 to R112) -/

/-- What one applied entry gives: its verdict, its reason when FAIL, and its unclamped rescaled value (R112,
R115). -/
structure EntryFinding where
  verdict : Verdict
  reason  : Option FailReason
  value   : Option Int
  deriving DecidableEq, Repr

/-- A FAIL with a reason and no rescaled value. -/
def failEntry (r : FailReason) : EntryFinding := { verdict := .fail, reason := some r, value := none }

/-- A PASS with no rescaled value. -/
def passEntry : EntryFinding := { verdict := .pass, reason := none, value := none }

/-- The field of a RESULT an entry reads, or the reason it cannot (R103). -/
def readField (r : ResultPayload) (e : LimitEntry) : Except FailReason Field :=
  match r.fields[e.fieldIndex.toNat]? with
  | none => .error .missingField
  | some f => if -12 ≤ f.exponent ∧ f.exponent ≤ 12 then .ok f else .error .badField

/-- A RANGE entry on an unclamped value (R110). -/
def judgeRange (e : LimitEntry) (w : Int) : EntryFinding :=
  let low := e.low.toInt
  let high := e.high.toInt
  let g : Int := e.guard.toNat
  if w < low ∨ high < w then { verdict := .fail, reason := some .entry, value := some w }
  else if w < low + g ∨ high - g < w then { verdict := .marginal, reason := none, value := some w }
  else { verdict := .pass, reason := none, value := some w }

/-- An OUTSIDE entry on an unclamped value; its outer bounds are not saturated (R111). -/
def judgeOutside (e : LimitEntry) (w : Int) : EntryFinding :=
  let low := e.low.toInt
  let high := e.high.toInt
  let g : Int := e.guard.toNat
  if low ≤ w ∧ w ≤ high then { verdict := .fail, reason := some .entry, value := some w }
  else if (low - g ≤ w ∧ w < low) ∨ (high < w ∧ w ≤ high + g) then
    { verdict := .marginal, reason := none, value := some w }
  else { verdict := .pass, reason := none, value := some w }

/-- A RANGE or OUTSIDE entry on a field: a clamped value fails with CLAMPED and is compared with nothing
(R109). -/
def judgeBounded (e : LimitEntry) (check : LimitEntry → Int → EntryFinding) (f : Field) : EntryFinding :=
  let w := rescale f.value (f.exponent - e.exponent.toInt)
  if w.clamped then failEntry .clamped else check e w.value

/-- A DIGEST entry on the blob (R105). -/
def judgeDigest (e : LimitEntry) (blob : List Byte) : EntryFinding :=
  if blob = [] then failEntry .missingField
  else if digest blob = e.digest then passEntry else failEntry .digest

/-- A check that reads a field: the checks of R103 come first. -/
def withField (r : ResultPayload) (e : LimitEntry) (check : Field → EntryFinding) : EntryFinding :=
  match readField r e with
  | .error reason => failEntry reason
  | .ok f => check f

/-- One applied entry against a RESULT (R102 to R111). An entry whose code names no kind never applies
(R201). -/
def judgeEntry (r : ResultPayload) (e : LimitEntry) : EntryFinding :=
  match e.kind? with
  | some .range => withField r e (judgeBounded e judgeRange)
  | some .outside => withField r e (judgeBounded e judgeOutside)
  | some .present => withField r e fun _ => passEntry
  | some .digest => judgeDigest e r.blob
  | none => passEntry

/-! ### Findings of a RESULT (R101, R102, R112 to R115) -/

/-- Whether an entry applies to a RESULT of a step with a limit group and a tag (R101). -/
def entryApplies (group tag : Byte) (e : LimitEntry) : Bool :=
  e.valid && group != 0x00#8 && e.group == group && e.tag == tag

/-- The applied entries in index order, each with what it gives (R101, R102). -/
def appliedFindings (limits : Vector LimitEntry 256) (group tag : Byte) (r : ResultPayload) :
    List (LimitId × EntryFinding) :=
  ((List.finRange 256).filter fun k => entryApplies group tag limits[k]).map fun k =>
    (k, judgeEntry r limits[k])

/-- What the judge hands on (R114). -/
structure Findings where
  verdict      : Verdict
  firstFailure : Option (FailReason × LimitId)
  critical     : Bool
  stat         : Option Int
  deriving DecidableEq, Repr

/-- The worst of the entry verdicts; NONE when no entry applied (R101, R102). -/
def worstVerdict (l : List (LimitId × EntryFinding)) : Verdict :=
  l.foldl (fun v e => v.worse e.2.verdict) .none

/-- The failing entry of lowest index, with its reason (R112). -/
def firstFailureOf (l : List (LimitId × EntryFinding)) : Option (FailReason × LimitId) :=
  l.findSome? fun e => e.2.reason.map fun reason => (reason, e.1)

/-- Whether an applied CRITICAL entry gave FAIL (R113). -/
def criticalFailure (limits : Vector LimitEntry 256) (l : List (LimitId × EntryFinding)) : Bool :=
  l.any fun e => e.2.verdict == .fail && limits[e.1].critical

/-- The statistic entry's unclamped rescaled value, when that entry applied and has one (R115). -/
def statisticOf (statEntry : Option LimitId) (l : List (LimitId × EntryFinding)) : Option Int :=
  statEntry.bind fun k => (l.find? fun e => e.1 = k).bind fun e => e.2.value

/-- The findings of a RESULT of a step (R101 to R115). -/
def judge (limits : Vector LimitEntry 256) (group tag : Byte) (statEntry : Option LimitId)
    (r : ResultPayload) : Findings :=
  let l := appliedFindings limits group tag r
  { verdict := worstVerdict l, firstFailure := firstFailureOf l, critical := criticalFailure limits l,
    stat := statisticOf statEntry l }

/-! ### The member entry and the verdict record -/

/-- A member entry after a judged RESULT (R76, R77). -/
def Member.judged (m : Member) (f : Findings) : Member :=
  { m with
    verdict := m.verdict.worse f.verdict
    count := satIncr Config.byteCounterMax m.count
    stat := f.stat.or m.stat }

/-- The first failure a FAIL writes where none is present (R121). -/
def firstFailureWritten (stepId : Half) (tag : Byte) (f : Findings) (old : Option FirstFailure) :
    Option FirstFailure :=
  if f.verdict = .fail then old.or (f.firstFailure.map fun r => .judged stepId tag r.1 r.2) else old

/-- A verdict record after a judged RESULT (R120 to R122). -/
def VerdictRecord.judged (v : VerdictRecord) (stepId : Half) (tag : Byte) (f : Findings) : VerdictRecord :=
  { verdict := v.verdict.worse f.verdict
    passCount := if f.verdict = .pass then satIncr Config.counterMax v.passCount else v.passCount
    marginalCount :=
      if f.verdict = .marginal then satIncr Config.counterMax v.marginalCount else v.marginalCount
    failCount := if f.verdict = .fail then satIncr Config.counterMax v.failCount else v.failCount
    firstFailure := firstFailureWritten stepId tag f v.firstFailure
    latch := v.latch || f.critical }

/-- A verdict record after a duplicate hold (R123). -/
def VerdictRecord.duplicateHeld (v : VerdictRecord) : VerdictRecord :=
  { v with verdict := .fail, firstFailure := v.firstFailure.or (some .duplicateIdentity), latch := true }

/-- A verdict record emptied, its latch kept (R119, R124, R126). -/
def VerdictRecord.emptied (v : VerdictRecord) : VerdictRecord :=
  { VerdictRecord.reset with latch := v.latch }

/-! ### Summary statistics (R89, R116, R117) -/

/-- The statistics over the values held; none for a count of 0 (R116, R117). -/
def statistics : List Int → Option Statistics
  | [] => none
  | v :: rest =>
    some
      { count := (v :: rest).length
        minimum := rest.foldl min v
        maximum := rest.foldl max v
        mean := divRound (v :: rest).sum (v :: rest).length }

/-- The members of a record in lane order (R88). -/
def StepRecord.memberList (r : StepRecord) : List (LaneId × Member) :=
  laneIds.filterMap fun i => r.members[i].map fun m => (i, m)

/-- The SUMMARY of a closed record (R88). -/
def StepRecord.summary (r : StepRecord) : SummaryBody :=
  { stepId := r.stepId.getD 0#16, cause := r.cause.getD .complete, tag := r.tag, members := r.memberList,
    stats := statistics (r.memberList.filterMap fun m => m.2.stat) }

end Sys2Proof.Machine
end

