-- ==== Sys2Proof/Machine/Ops.lean ====
section
/-! DEFINITION. The shared operations over the state that every family uses: access to lanes, records and
instruments, lane engine teardown, the egress queues, the beacon's events, timers and the passing of time. -/

namespace Sys2Proof.Machine

open Sys2Proof

/-! ### Access -/

/-- A lane. -/
def State.lane (s : State) (i : LaneId) : Lane := s.lanes[i]

/-- Change one lane. -/
def State.updLane (s : State) (i : LaneId) (f : Lane → Lane) : State :=
  { s with lanes := s.lanes.set i (f (s.lane i)) }

/-- A step record. -/
def State.record (s : State) (r : RecordId) : StepRecord := s.records[r]

/-- Change one step record. -/
def State.updRecord (s : State) (r : RecordId) (f : StepRecord → StepRecord) : State :=
  { s with records := s.records.set r (f (s.record r)) }

/-- An instrument record. -/
def State.instrument (s : State) (k : InstrumentId) : Instrument := s.instruments[k]

/-- Change one instrument record. -/
def State.updInstrument (s : State) (k : InstrumentId) (f : Instrument → Instrument) : State :=
  { s with instruments := s.instruments.set k (f (s.instrument k)) }

/-- The lane set of a group: groups 1 to 31 as stored, group 0 all sixteen lanes (R52). -/
def State.groupLanes (s : State) (n : Nat) : LaneSet :=
  if h : 1 ≤ n ∧ n ≤ 31 then s.groups[n - 1]'(by omega) else 0xFFFF#16

/-- Set a lane error flag (R26). -/
def State.setFlag (s : State) (i : LaneId) (f : LaneFlag) : State :=
  s.updLane i fun l => { l with flags := withFlag l.flags f }

/-! ### Lane engine items (R22, R28) -/

/-- The frame in flight abandoned without SEND_FAILED; a send under way is cut after its character (R22). -/
def Lane.abandon (l : Lane) : Lane :=
  match l.inFlight with
  | none => l
  | some f => { l with inFlight := none, txBusy := if f.phase = .sending then false else l.txBusy }

/-- Mode APP, transmit sequence 0, last-taken receive sequence absent (R9). -/
def Lane.linkFresh (l : Lane) : Lane := { l with mode := .app, txSeq := 0#8, lastTaken := none }

/-- Hunting from HUNT, a partial frame discarded without a flag (R4, R28). -/
def Lane.huntFresh (l : Lane) : Lane := { l with hunt := .hunt, gapTimer := none }

/-- The lane engine under a departure (R28, R43). -/
def Lane.departEngine (l : Lane) : Lane :=
  { l.abandon.linkFresh.huntFresh with txQueue := [], control := none, rxBuffer := [], marks := [] }

/-- The lane engine at seating (R28, R31). -/
def Lane.seatEngine (l : Lane) : Lane := { l.departEngine with txBusy := false }

/-- The lane engine when POWER goes off under a phone: as a departure, but the receive buffer is kept (R28,
R41). -/
def Lane.powerOffEngine (l : Lane) : Lane :=
  { l.abandon.linkFresh.huntFresh with txQueue := [], control := none, marks := [] }

/-- The DO frames of a set of step IDs removed from the transmit queue, the others in their order (R23). -/
def Lane.removeSteps (l : Lane) (gone : List Half) : Lane :=
  { l with
    txQueue := l.txQueue.filter fun q =>
      match q with
      | .doStep id _ _ => !gone.contains id
      | .passOn _ => true }

/-- The announce timer started with the announce limit (R42). -/
def Lane.announceStart (l : Lane) : Lane :=
  { l with announce := .running (l.settings.announceLimit * 1000) }

/-! ### Beacon: due, early requests and events (R187 to R189) -/

/-- A beacon falls due: the interval timer stops and the early request is cleared (R188). -/
def State.beaconFallsDue (s : State) : State :=
  { s with beaconDue := true, intervalTimer := none, earlyRequest := false }

/-- An early beacon is asked for (R189). -/
def State.requestEarly (s : State) : State :=
  if s.beaconDue then s
  else if s.spacingTimer.isNone then s.beaconFallsDue
  else { s with earlyRequest := true }

/-- An event is recorded in the holding set; a masked kind asks for an early beacon (R187, R189). -/
def State.recordEvent (s : State) (i : LaneId) (k : EventKind) : State :=
  let s' := { s with holding := s.holding.set i (withEvent s.holding[i] k) }
  if hasEvent s.noticeMask k then s'.requestEarly else s'

/-! ### Egress queues (R165, R166) -/

/-- The urgent queue is full: its places are all taken, the ANSWER reservation counted among them (R165). -/
def State.urgentFull (s : State) : Bool :=
  decide (Config.urgentSize ≤ s.urgent.length + (if s.answerReserved then 1 else 0))

/-- A DEPARTURE or INSTRUMENT report offered to the urgent queue: dropped and counted when it is full (R165). -/
def State.offerUrgent (s : State) (r : UrgentReport) : State :=
  if s.urgentFull then { s with urgentDrops := satIncr Config.counterMax s.urgentDrops }
  else { s with urgent := s.urgent ++ [r] }

/-- Room for one more report in the bulk queue. -/
def State.bulkRoom (s : State) : Bool := decide (s.bulk.length < Config.bulkSize)

/-- A COPY or TEXT report offered to the bulk queue: dropped and counted when it is full or the closing list
holds a record (R166). -/
def State.offerBulk (s : State) (r : BulkReport) : State :=
  if s.bulkRoom && s.closing.isEmpty then { s with bulk := s.bulk ++ [r] }
  else { s with bulkDrops := satIncr Config.counterMax s.bulkDrops }

/-! ### The passing of time -/

/-- A running count less what has passed, standing at 0 once it has run out. -/
def countDown (elapsed : Nat) (t : Option Nat) : Option Nat := t.map fun n => n - elapsed

/-- One millisecond of the send phase's timer. -/
def SendPhase.passMs : SendPhase → SendPhase
  | .awaiting n => .awaiting (n - 1)
  | .paused n => .paused (n - 1)
  | .sending => .sending
  | .due => .due

/-- One millisecond of the announce timer. -/
def AnnounceTimer.passMs : AnnounceTimer → AnnounceTimer
  | .running n => .running (n - 1)
  | .stopped => .stopped
  | .expired => .expired

/-- One millisecond of a lane's timers. -/
def Lane.passMs (l : Lane) : Lane :=
  { l with
    inFlight := l.inFlight.map fun f => { f with phase := f.phase.passMs }
    gapTimer := countDown 1 l.gapTimer
    debounce := countDown 1 l.debounce
    announce := l.announce.passMs
    keyPulse := countDown 1 l.keyPulse }

/-- One millisecond passes: every running timer's count falls, standing at 0 once it has run out. What the
running out does is the expiry command's. -/
def State.passMs (s : State) : State :=
  { s with
    lanes := Vector.ofFn fun i => (s.lane i).passMs
    records := Vector.ofFn fun r => { s.record r with deadline := countDown 1 (s.record r).deadline }
    instruments := Vector.ofFn fun k =>
      { s.instrument k with holdTimer := countDown 1 (s.instrument k).holdTimer }
    bulkHold := countDown Config.bitsPerMs s.bulkHold
    intervalTimer := countDown 1 s.intervalTimer
    spacingTimer := countDown 1 s.spacingTimer }

end Sys2Proof.Machine
end

