-- ==== Sys2Proof/Machine/StepOps.lean ====
section
/-! DEFINITION. The step unit's shared operations: outcomes and outstanding entries, the closing check, closing,
the entry of a summary into bulk egress, expiry and abort (R51 to R91). -/

namespace Sys2Proof.Machine

open Sys2Proof

/-- Change one member entry of a record. -/
def StepRecord.updMember (r : StepRecord) (i : LaneId) (f : Member → Member) : StepRecord :=
  { r with members := r.members.set i (r.members[i].map f) }

/-- Whether a lane's member entry owes an answer. -/
def StepRecord.owes (r : StepRecord) (i : LaneId) : Bool :=
  match r.members[i] with
  | some m => m.outcome.owing
  | none => false

/-- Whether a lane is a member. -/
def StepRecord.isMember (r : StepRecord) (i : LaneId) : Bool := r.members[i].isSome

/-- The members with an outcome, as a lane set. -/
def StepRecord.withOutcome (r : StepRecord) (o : MemberOutcome) : LaneSet :=
  laneSetOf fun i => r.members[i].any fun m => m.outcome == o

/-- The number of members with an outcome. -/
def StepRecord.countOutcome (r : StepRecord) (o : MemberOutcome) : Nat :=
  laneIds.countP fun i => r.members[i].any fun m => m.outcome == o

/-- The members that owe an answer, in lane order. -/
def StepRecord.owing (r : StepRecord) : List LaneId := laneIds.filter r.owes

/-- The head of the closing list enters bulk egress when there is room: its record leaves the list, becomes
FREE under its last ID and joins the tail of the free order (R69, R90). -/
def State.enterSummary (s : State) : State :=
  match s.closing with
  | [] => s
  | r :: rest =>
    if s.bulkRoom then
      { s.updRecord r (fun n => { n with state := .free }) with
        bulk := s.bulk ++ [.summary (s.record r).summary]
        closing := rest
        freeOrder := s.freeOrder ++ [r] }
    else s

/-- A step closes (R67): the timer stops, the cause is recorded, and the record joins the closing list. With the
list empty before and room in bulk egress its summary enters at once (R90). -/
def State.closeStep (s : State) (r : RecordId) (cause : CloseCause) : State :=
  let s1 :=
    { s.updRecord r (fun n => { n with deadline := none, cause := some cause, state := .closing }) with
      closing := s.closing ++ [r] }
  if s.closing.isEmpty then s1.enterSummary else s1

/-- The closing check: an OPEN step with no member owing closes with cause COMPLETE (R60). -/
def State.closingCheck (s : State) (r : RecordId) : State :=
  if (s.record r).state = .opened ∧ (s.record r).owing = [] then s.closeStep r .complete else s

/-- A member of an OPEN step that owes takes a new outcome. -/
def State.setOutcome (s : State) (r : RecordId) (i : LaneId) (o : MemberOutcome) : State :=
  if (s.record r).state = .opened ∧ (s.record r).owes i = true then
    s.updRecord r fun n => n.updMember i fun m => { m with outcome := o }
  else s

/-- The outstanding entry of a lane for a record removed, the others in their order (R60). -/
def Lane.dropEntry (l : Lane) (r : RecordId) : Lane :=
  { l with outstanding := l.outstanding.filter fun e => e.record ≠ r }

/-- One outstanding entry lost: the member's outcome written, the entry removed, the closing check made (R82,
R83). -/
def State.loseEntry (i : LaneId) (o : MemberOutcome) (s : State) (e : OutEntry) : State :=
  ((s.setOutcome e.record i o).updLane i fun l => l.dropEntry e.record).closingCheck e.record

/-- A lane loss: every outstanding entry of the lane, oldest first (R82, R83). -/
def State.loseEntries (s : State) (i : LaneId) (o : MemberOutcome) : State :=
  (s.lane i).outstanding.foldl (State.loseEntry i o) s

/-- A lane loss that makes entries LOST also removes those steps' unsent DO frames (R37, R40). -/
def State.loseWork (s : State) (i : LaneId) : State :=
  (s.loseEntries i .lost).updLane i fun l => l.removeSteps ((s.lane i).outstanding.map OutEntry.stepId)

/-- One member's part in an expiry or abort: an owing member takes the outcome and its entry is removed (R63,
R64 step 1). -/
def State.endOwing (r : RecordId) (o : MemberOutcome) (s : State) (i : LaneId) : State :=
  if (s.record r).owes i then (s.setOutcome r i o).updLane i fun l => l.dropEntry r else s

/-- The unsent DO frames of a step removed from a member lane's transmit queue (R65). -/
def State.removeUnsent (r : RecordId) (s : State) (i : LaneId) : State :=
  if (s.record r).isMember i then
    s.updLane i fun l => l.removeSteps (s.record r).stepId.toList
  else s

/-- An OPEN step ends by expiry or abort: owing members take the outcome, unsent DO frames go, the step closes
(R63, R64). -/
def State.endStep (s : State) (r : RecordId) (o : MemberOutcome) (cause : CloseCause) : State :=
  (laneIds.foldl (State.removeUnsent r) (laneIds.foldl (State.endOwing r o) s)).closeStep r cause

/-- The OPEN record that carries a step ID. -/
def State.openRecord (s : State) (id : Half) : Option RecordId :=
  (List.finRange 32).find? fun r => (s.record r).state = .opened ∧ (s.record r).stepId = some id

/-- Whether an OPEN or CLOSING record carries a step ID (R54). -/
def State.idInUse (s : State) (id : Half) : Bool :=
  (List.finRange 32).any fun r => (s.record r).state ≠ .free ∧ (s.record r).stepId = some id

/-- Whether a step ID is held by a CLOSING record, or by a FREE record as its last ID (R78). -/
def State.idLate (s : State) (id : Half) : Bool :=
  (List.finRange 32).any fun r => (s.record r).state ≠ .opened ∧ (s.record r).stepId = some id

end Sys2Proof.Machine
end

