-- ==== Sys2Proof/Machine/BeaconOps.lean ====
section
/-! DEFINITION. The beacon unit's shared operations: what a BEACON carries, its entry into the urgent queue, and its
entry ahead of an ANSWER (R190 to R194). -/

namespace Sys2Proof.Machine

open Sys2Proof

/-- The sixteen lanes in lane order. -/
def State.laneList (s : State) : List Lane := laneIds.map s.lane

/-- The thirty-two step records in index order. -/
def State.recordList (s : State) : List StepRecord := (List.finRange 32).map s.record

/-- The STEPS row of a non-FREE record: ID, state, deadline remaining while OPEN, members PENDING and PARTIAL
(R193). -/
def StepRecord.beaconRow (r : StepRecord) : Half × RecordState × Nat × Nat × Nat :=
  (r.stepId.getD 0#16, r.state, if r.state = .opened then r.deadline.getD 0 else 0,
    r.countOutcome .pending, r.countOutcome .partialAnswer)

/-- The table of the selected report (R193). -/
def State.selectedTable (s : State) : SelectedTable :=
  match s.selection with
  | .verdicts => .verdicts (s.laneList.map fun l => (l.board.verdict, l.board.latch, l.board.firstFailure.isSome))
  | .flags => .flags (s.laneList.map fun l => (l.flags, l.dupCount))
  | .instruments =>
    .instruments (instrumentIds.map fun k =>
      ((s.instrument k).enabled, (s.instrument k).holder, (s.instrument k).holdTimer.getD 0,
        (s.instrument k).waiting))
  | .steps => .steps ((s.recordList.filter fun r => r.state ≠ .free).map StepRecord.beaconRow)

/-- A BEACON built from the part as it stands (R191). -/
def State.buildBeacon (s : State) : BeaconBody :=
  { heartbeat := s.heartbeat
    startup := s.startup
    station := s.station
    laneStates := s.laneList.map Lane.state
    events := laneIds.map fun i => s.holding[i]
    fcsDrops := s.fcsDrops
    ingressDrops := s.ingressDrops
    urgentDrops := s.urgentDrops
    bulkDrops := s.bulkDrops
    openSteps := s.recordList.countP fun r => r.state = .opened
    closing := s.closing.length
    selected := s.selectedTable }

/-- A due beacon enters (R190): the heartbeat is inverted, the BEACON built, the holding set emptied, the due
flag cleared and the two timers started. -/
def State.enterBeacon (s : State) : State :=
  if s.beaconDue && !s.urgentFull then
    let s1 := { s with heartbeat := !s.heartbeat }
    { s1 with
      urgent := s1.urgent ++ [.beacon s1.buildBeacon]
      holding := Vector.replicate 16 0#9
      beaconDue := false
      intervalTimer := some s1.interval
      spacingTimer := some Config.beaconSpacing }
  else s

/-- A beacon that an order's action made due, with a place free besides the ANSWER's: it may enter ahead of the
ANSWER, and which of the two happens is a free choice (R194). `wasDue` says whether one was due before. -/
def State.beaconBeforeAnswer (s : State) (wasDue : Bool) : State :=
  if !wasDue && s.beaconDue && !s.urgentFull then
    let s1 := { s with choices := s.choices + 1 }
    if Config.beaconFirst s.choices then s1.enterBeacon else s1
  else s

end Sys2Proof.Machine
end

