-- ==== Sys2Proof/Machine/Beacon.lean ====
section
/-! DEFINITION. The beacon unit's commands INTERVAL_EXPIRY, SPACING_EXPIRY, BEACON_ENTRY (R188 to R190). -/

namespace Sys2Proof.Machine

open Sys2Proof

/-- BEACON_ENTRY (R190). -/
def execBeaconEntry (s : State) : Host.Outcome State Fault Refusal := .next s.enterBeacon

/-- INTERVAL_EXPIRY: a beacon falls due (R188). -/
def execIntervalExpiry (s : State) : Host.Outcome State Fault Refusal :=
  .next (if s.intervalTimer = some 0 then s.beaconFallsDue else s)

/-- The spacing timer runs out: it stops, and with the early request set a beacon falls due (R189). -/
def State.spacingOut (s : State) : State :=
  if s.spacingTimer = some 0 then
    let s1 := { s with spacingTimer := none }
    if s.earlyRequest then s1.beaconFallsDue else s1
  else s

/-- SPACING_EXPIRY (R189). -/
def execSpacingExpiry (s : State) : Host.Outcome State Fault Refusal := .next s.spacingOut

end Sys2Proof.Machine
end

