-- ==== Sys2Proof/Machine/ArbiterOps.lean ====
section
/-! DEFINITION. The instrument arbiter's shared operations: control frames, reports, grants, rotation, and the
loss of a lane (R140 to R157). -/

namespace Sys2Proof.Machine

open Sys2Proof

/-- A control frame placed in a lane's control slot, replacing any frame waiting there (R24, R154). -/
def State.placeControl (s : State) (i : LaneId) (kind : ControlKind) (k : InstrumentId) : State :=
  s.updLane i fun l => { l with control := some { kind := kind, instrument := k } }

/-- An INSTRUMENT report offered to urgent egress and its event recorded (R155). -/
def State.reportInstrument (s : State) (k : InstrumentId) (event : InstrumentEvent) (i : LaneId)
    (holdLimit : Nat) : State :=
  (s.offerUrgent (.instrument k event i holdLimit (s.instrument k).waiting)).recordEvent i .instrument

/-- The hold timer a grant starts: stopped for a hold limit of 0 (R145). -/
def holdTimerOf (limit : Nat) : Option Nat := if limit = 0 then none else some limit

/-- An instrument record as a grant to a lane leaves it (R145 steps 1 to 3). -/
def Instrument.granted (n : Instrument) (i : LaneId) : Instrument :=
  { n with
    holder := some i
    waiting := removeLane n.waiting i
    revoked := removeLane n.revoked i
    lastGranted := i
    holdTimer := holdTimerOf n.holdLimit }

/-- A grant (R145). -/
def State.grant (s : State) (k : InstrumentId) (i : LaneId) : State :=
  (((s.updInstrument k fun n => n.granted i).placeControl i .grant k).reportInstrument k .granted i
    (s.instrument k).holdLimit)

/-- The sixteen lanes in rotation after a lane, ending with that lane itself (R48, R146). -/
def rotationAfter (i : LaneId) : List LaneId := laneIds.map fun d => i + 1 + d

/-- The next holder of a freed instrument: the first waiter in rotation after the last granted lane (R146). -/
def State.nextHolder (s : State) (k : InstrumentId) : Option LaneId :=
  (rotationAfter (s.instrument k).lastGranted).find? fun i => inSet (s.instrument k).waiting i

/-- The next holder is chosen and granted, if a lane waits (R146). -/
def State.chooseNext (s : State) (k : InstrumentId) : State :=
  match s.nextHolder k with
  | some i => s.grant k i
  | none => s

/-- An instrument record whose hold has ended. -/
def Instrument.freed (n : Instrument) : Instrument := { n with holder := none, holdTimer := none }

/-- One instrument under the loss of a lane (R150). -/
def State.loseInstrument (i : LaneId) (s : State) (k : InstrumentId) : State :=
  let s1 :=
    if (s.instrument k).holder = some i then
      (((s.updInstrument k Instrument.freed).reportInstrument k .dropped i 0).chooseNext k)
    else s
  s1.updInstrument k fun n =>
    { n with waiting := removeLane n.waiting i, revoked := removeLane n.revoked i }

/-- A lane loses every hold, every place in a waiting list and every revoked mark, instrument by instrument
(R150). -/
def State.loseInstruments (s : State) (i : LaneId) : State :=
  instrumentIds.foldl (State.loseInstrument i) s

/-- The waiting lanes of an instrument denied in lane order, and the waiting list emptied (R153). -/
def State.denyWaiters (s : State) (k : InstrumentId) : State :=
  laneIds.foldl
    (fun s i =>
      if inSet (s.instrument k).waiting i then
        (s.updInstrument k fun n => { n with waiting := removeLane n.waiting i }).placeControl i .deny k
      else s)
    s

/-- An instrument disabled: its holder revoked without HOLD_OVER, its waiters denied (R153). -/
def State.disableInstrument (s : State) (k : InstrumentId) : State :=
  let s1 :=
    match (s.instrument k).holder with
    | none => s
    | some i =>
      ((s.updInstrument k Instrument.freed).placeControl i .revoke k).reportInstrument k .revoked i 0
  (s1.denyWaiters k).updInstrument k fun n => { n with enabled := false }

end Sys2Proof.Machine
end

