-- ==== Sys2Proof/Machine/RosterOps.lean ====
section
/-! DEFINITION. The roster's shared operations and the lane engine's with them: seating, binding and holding,
departures, restarts, stalls, leaving OFF, and the POWER and KEY lines (R29 to R50, R119 to R135). -/

namespace Sys2Proof.Machine

open Sys2Proof

/-- A lane is seated (R31, R133). -/
def State.seatLane (s : State) (i : LaneId) : State :=
  (s.updLane i fun l =>
    { l.seatEngine.announceStart with
      state := .seated, power := l.power || l.settings.autoPower }).recordEvent i .seated

/-- A lane leaves OFF: EMPTY, or seated where the debounced level is on (R33). -/
def State.leaveOff (s : State) (i : LaneId) : State :=
  if (s.lane i).seat then s.seatLane i
  else s.updLane i fun l => { l.huntFresh with state := .empty }

/-- A lane bound under an identity no other BOUND lane holds; fresh where it held none before (R35). -/
def Lane.bind (l : Lane) (identity : List Byte) : Lane :=
  { l with
    state := .bound
    identity := some identity
    bindCount := satIncr Config.byteCounterMax l.bindCount
    announce := .stopped
    resume := none
    board := if l.identity.isNone then l.board.emptied else l.board }

/-- A lane held for a duplicate identity (R35, R123). -/
def Lane.hold (l : Lane) (identity : List Byte) : Lane :=
  { l with
    state := .held
    identity := some identity
    announce := .stopped
    resume := none
    board := l.board.duplicateHeld }

/-- Whether a lane other than `i` is BOUND under an identity (R35). -/
def State.boundElsewhere (s : State) (i : LaneId) (identity : List Byte) : Bool :=
  laneIds.any fun j => j ≠ i ∧ (s.lane j).state = .bound ∧ (s.lane j).identity = some identity

/-- The uniqueness check and its two outcomes (R35). -/
def State.bindOrHold (s : State) (i : LaneId) (identity : List Byte) : State :=
  if s.boundElsewhere i identity then
    (s.updLane i fun l => l.hold identity).recordEvent i .held
  else
    (s.updLane i fun l => l.bind identity).recordEvent i
      (if (s.lane i).identity.isNone then .bound else .rebound)

/-- The DEPARTURE report of a lane as it stands (R44). -/
def Lane.departureReport (l : Lane) (i : LaneId) (cause : DepartCause) : UrgentReport :=
  .departure i cause l.identity l.bindCount l.board

/-- The lane state a departure leaves; under SWAPPED that of a lane with the phone seated, until the new identity
is checked (R43 step 7, R45). -/
def DepartCause.stateAfter : DepartCause → LaneState
  | .sense => .empty | .disabled => .off | .swapped => .seated

/-- The lane's own items as steps 5 to 7 of a departure leave them (R43, R45). -/
def Lane.departed (l : Lane) (cause : DepartCause) : Lane :=
  { l with
    identity := none
    bindCount := 0
    resume := none
    board := .reset
    announce := .stopped
    keyPulse := none
    power := if cause = .swapped then l.power else false
    txBusy := if cause = .swapped then l.txBusy else false
    state := cause.stateAfter }

/-- A departure (R43): report, entries GONE, lane engine emptied, instruments released, then the roster's and
the lines' items, the event and the state. -/
def State.depart (s : State) (i : LaneId) (cause : DepartCause) : State :=
  (((((s.offerUrgent ((s.lane i).departureReport i cause)).loseEntries i .gone).updLane i
    Lane.departEngine).loseInstruments i).updLane i fun l => l.departed cause).recordEvent i .departed

/-- A HELLO with another identity: a SWAPPED departure, then the uniqueness check (R38, R45). -/
def State.swap (s : State) (i : LaneId) (identity : List Byte) : State :=
  (s.depart i .swapped).bindOrHold i identity

/-- The frame in flight abandoned unless it is a PASS-ON (R37 step 3). -/
def Lane.abandonForRebind (l : Lane) : Lane :=
  match l.inFlight with
  | some { frame := .queued (.passOn _), .. } => l
  | _ => l.abandon

/-- A rebind HELLO (R37). -/
def State.rebind (s : State) (i : LaneId) : State :=
  ((((s.loseWork i).updLane i fun l => { l.abandonForRebind with control := none }).loseInstruments
    i).updLane i fun l => { l with bindCount := satIncr Config.byteCounterMax l.bindCount }).recordEvent i
    .rebound

/-- The lane state and timer under a restart: SEATED with the announce timer started afresh (R40). -/
def Lane.restarted (l : Lane) : Lane :=
  { l.announceStart with
    state := .seated, resume := if l.state = .stalled then none else l.resume }

/-- A restart by a switch into LOADER, the lane engine's own effects already made (R40). -/
def State.loaderRestart (s : State) (i : LaneId) : State :=
  let s1 := if (s.lane i).state = .bound then (s.loseWork i).loseInstruments i else s
  (s1.updLane i Lane.restarted).recordEvent i .loader

/-- A restart by POWER off (R41, R132). -/
def State.powerOffRestart (s : State) (i : LaneId) : State :=
  let s1 := if (s.lane i).state = .bound then s.loseWork i else s
  let s2 := s1.updLane i Lane.powerOffEngine
  let s3 := if (s.lane i).state = .bound then s2.loseInstruments i else s2
  s3.updLane i Lane.restarted

/-- POWER switched to a level; the level it already has is no switch (R131, R132). -/
def State.switchPower (s : State) (i : LaneId) (level : Bool) : State :=
  if (s.lane i).power = level then s
  else
    let s1 := s.updLane i fun l => { l with power := level }
    if level = false ∧ (s.lane i).state.occupied = true then s1.powerOffRestart i else s1

/-- The resume state that remembers a lane state (R46). -/
def LaneState.asResume : LaneState → Option ResumeState
  | .seated => some .seated
  | .bound => some .bound
  | .held => some .held
  | .off | .empty | .stalled => none

/-- A lane enters STALLED: the frame in flight abandoned for send failure (R21, R46). -/
def State.stall (s : State) (i : LaneId) : State :=
  let s1 := (s.setFlag i .sendFailed).updLane i fun l =>
    { l with inFlight := none, resume := l.state.asResume, txQueue := [], control := none }
  let s2 := if (s.lane i).state = .bound then (s1.loseEntries i .undelivered).loseInstruments i else s1
  (s2.updLane i fun l => { l with state := .stalled, announce := .stopped }).recordEvent i .stalled

/-- A lane disabled (R33, R180 step 2). -/
def State.disableLane (s : State) (i : LaneId) : State :=
  let s1 := s.updLane i fun l => { l with settings := { l.settings with enabled := false } }
  if (s.lane i).state.occupied then s1.depart i .disabled
  else s1.updLane i fun l => { l.huntFresh with state := .off }

/-- A lane enabled: it leaves OFF unless STARTUP is set (R33, R180 step 6). -/
def State.enableLane (s : State) (i : LaneId) : State :=
  let s1 := s.updLane i fun l => { l with settings := { l.settings with enabled := true } }
  if s.startup = false ∧ (s.lane i).state = .off then s1.leaveOff i else s1

/-- Auto-power set to a level; the level it already has is no change (R133). -/
def State.setAutoPower (s : State) (i : LaneId) (level : Bool) : State :=
  if (s.lane i).settings.autoPower = level then s
  else
    let s1 := s.updLane i fun l => { l with settings := { l.settings with autoPower := level } }
    if level then (if (s.lane i).state.occupied then s1.switchPower i true else s1)
    else s1.switchPower i false

/-- A KEY pulse of a duration: 0 releases KEY, any other presses it and starts the timer (R134). -/
def State.pulseKey (s : State) (i : LaneId) (duration : Nat) : State :=
  s.updLane i fun l => { l with keyPulse := if duration = 0 then none else some duration }

end Sys2Proof.Machine
end

