-- ==== Sys2Proof/Machine/Dispatcher.lean ====
section
/-! DEFINITION. The lane dispatcher and what the destinations make of a frame (R34 to R39, R48, R49, R73 to R86,
R142 to R148). Commands HELLO, RESULT, TEXT, CLAIM, RELEASE. Each has its effect when the frame the rotation
reaches next is of its kind, and none otherwise. -/

namespace Sys2Proof.Machine

open Sys2Proof

/-- The frame the dispatcher takes next, and its lane: the oldest frame of the first buffer in rotation that
holds one (R48). -/
def State.nextFrame (s : State) : Option (LaneId × RxFrame) :=
  (rotationAfter s.pointer).findSome? fun i => (s.lane i).rxBuffer.head?.map fun f => (i, f)

/-- A lane's oldest frame leaves its buffer and the pointer names the lane (R48). -/
def State.dispatched (s : State) (i : LaneId) : State :=
  { s.updLane i (fun l => { l with rxBuffer := l.rxBuffer.tail }) with pointer := i }

/-- The dispatcher takes the next frame and hands it on, if the frame is for this destination (R48, R49). -/
def State.dispatch (s : State) (mine : RxFrame → Bool) (act : LaneId → RxFrame → State → State) : State :=
  match s.nextFrame with
  | some (i, f) => if mine f then act i f (s.dispatched i) else s
  | none => s

/-- An APP frame of a kind (R49). -/
def RxFrame.isApp (f : RxFrame) (kind : Byte) : Bool := f.framing == .app && f.kind == kind

/-! ### HELLO: the roster (R34 to R39) -/

/-- The roster on a HELLO's identity, by the lane state (R36 to R39). -/
def State.helloByState (s : State) (i : LaneId) (identity : List Byte) : State :=
  match (s.lane i).state with
  | .seated | .stalled | .held =>
    match (s.lane i).identity with
    | none => s.bindOrHold i identity
    | some old => if old = identity then s.bindOrHold i identity else s.swap i identity
  | .bound => if (s.lane i).identity = some identity then s.rebind i else s.swap i identity
  | .off | .empty => s

/-- The roster takes a HELLO: the mode and length checks first (R34). -/
def takeHello (i : LaneId) (f : RxFrame) (s : State) : State :=
  if (s.lane i).mode = .loader then s
  else if f.payload = [] ∨ Config.maxIdentity < f.payload.length then s.setFlag i .badHello
  else s.helloByState i f.payload

/-- HELLO (R34). -/
def execHello (s : State) : Host.Outcome State Fault Refusal :=
  .next (s.dispatch (fun f => f.isApp kindHello) takeHello)

/-! ### RESULT: the judge (R73 to R86) -/

/-- A RESULT that is not judged goes upstream under a class (R79). -/
def State.reportUnjudged (s : State) (i : LaneId) (f : RxFrame) (c : TextClass) : State :=
  s.offerBulk (.text i c f.kind f.seq f.payload)

/-- A RESULT that finds no outstanding entry (R78). -/
def State.strayResult (s : State) (i : LaneId) (f : RxFrame) (id : Half) : State :=
  if s.idLate id then ((s.setFlag i .stray).setFlag i .late).reportUnjudged i f .late
  else (s.setFlag i .stray).reportUnjudged i f .stray

/-- A RESULT whose tag is not its step's (R74, R78). -/
def State.badTagResult (s : State) (i : LaneId) (f : RxFrame) : State :=
  ((s.setFlag i .badTag).setFlag i .stray).reportUnjudged i f .stray

/-- The member's outcome after a judged RESULT; a final one ends the entry and makes the closing check (R77). -/
def State.settleResult (s : State) (i : LaneId) (r : RecordId) (final : Bool) : State :=
  if final then
    ((s.setOutcome r i .answered).updLane i fun l => l.dropEntry r).closingCheck r
  else s.setOutcome r i .partialAnswer

/-- A COPY of a judged RESULT of a STREAM step: its own verdict and the member's count after it (R84, R85). -/
def State.copyResult (s : State) (i : LaneId) (r : RecordId) (verdict : Verdict) (payload : List Byte) : State :=
  if (s.record r).stream then
    s.offerBulk (.copy i verdict (((s.record r).members[i]).elim 0 Member.count) payload)
  else s

/-- A matched RESULT judged, in the order of R75. -/
def State.judgeResult (s : State) (i : LaneId) (r : RecordId) (p : List Byte) : State :=
  let q := resultOfPayload p
  let rec0 := s.record r
  let f := judge s.limits rec0.limitGroup rec0.tag rec0.statEntry q
  let s1 := s.updRecord r fun n => n.updMember i fun m => m.judged f
  let s2 := s1.updLane i fun l => { l with board := l.board.judged q.stepId rec0.tag f }
  (s2.copyResult i r f.verdict p).settleResult i r q.final

/-- The judge takes a RESULT (R73). -/
def takeResult (i : LaneId) (f : RxFrame) (s : State) : State :=
  let q := resultOfPayload f.payload
  match (s.lane i).outstanding.find? fun e => e.stepId = q.stepId with
  | none => s.strayResult i f q.stepId
  | some e => if q.tag = (s.record e.record).tag then s.judgeResult i e.record f.payload else s.badTagResult i f

/-- RESULT (R73). -/
def execResult (s : State) : Host.Outcome State Fault Refusal :=
  .next (s.dispatch (fun f => f.isApp kindResult) takeResult)

/-! ### TEXT: bulk egress (R49) -/

/-- A TEXT, or any LOADER frame, forwarded (R49, R199). -/
def takeText (i : LaneId) (f : RxFrame) (s : State) : State :=
  s.offerBulk (.text i (if f.framing = .loader then .loader else .text) f.kind f.seq f.payload)

/-- TEXT (R49). -/
def execText (s : State) : Host.Outcome State Fault Refusal :=
  .next (s.dispatch (fun f => f.isApp kindText || f.framing == .loader) takeText)

/-! ### CLAIM and RELEASE: the arbiter (R142 to R148) -/

/-- A CLAIM denied: a DENY frame, but none on a STALLED lane (R143). -/
def State.denyClaim (s : State) (i : LaneId) (k : InstrumentId) : State :=
  if (s.lane i).state = .stalled then s else s.placeControl i .deny k

/-- A CLAIM for an instrument: the checks of R142 in their order. -/
def State.claim (s : State) (i : LaneId) (k : InstrumentId) : State :=
  let s1 := s.updInstrument k fun n => { n with revoked := removeLane n.revoked i }
  let n := s.instrument k
  if (s.lane i).state ≠ .bound ∨ n.enabled = false then s1.denyClaim i k
  else if n.holder = some i ∨ inSet n.waiting i = true then s1
  else if n.holder = none then s1.grant k i
  else s1.updInstrument k fun n => { n with waiting := addLane n.waiting i }

/-- The arbiter takes a CLAIM. -/
def takeClaim (i : LaneId) (f : RxFrame) (s : State) : State :=
  match instrumentOfByte (byteAt f.payload 0) with
  | some k => s.claim i k
  | none => s

/-- CLAIM (R142). -/
def execClaim (s : State) : Host.Outcome State Fault Refusal :=
  .next (s.dispatch (fun f => f.isApp kindClaim) takeClaim)

/-- A RELEASE of an instrument (R147, R148). -/
def State.release (s : State) (i : LaneId) (k : InstrumentId) : State :=
  let n := s.instrument k
  if n.holder = some i then
    ((s.updInstrument k Instrument.freed).reportInstrument k .released i 0).chooseNext k
  else if inSet n.revoked i then
    (s.setFlag i .lateRelease).updInstrument k fun n => { n with revoked := removeLane n.revoked i }
  else s

/-- The arbiter takes a RELEASE. -/
def takeRelease (i : LaneId) (f : RxFrame) (s : State) : State :=
  match instrumentOfByte (byteAt f.payload 0) with
  | some k => s.release i k
  | none => s

/-- RELEASE (R147). -/
def execRelease (s : State) : Host.Outcome State Fault Refusal :=
  .next (s.dispatch (fun f => f.isApp kindRelease) takeRelease)

end Sys2Proof.Machine
end

