-- ==== Sys2Proof/Machine/OrderOps.lean ====
section
/-! DEFINITION. The order unit's shared operations: taking the head of the ingress queue, the checks common to
every order, the ANSWER, and the reset of every block (R164, R165, R171 to R178). -/

namespace Sys2Proof.Machine

open Sys2Proof

/-- The order unit takes the head of the ingress queue, if it is an order of this command's: it has no current
order, the urgent queue has a free place, and that place is reserved (R164, R165, R171). -/
def State.takeOrder (s : State) (mine : Order → Bool) : Option (Order × State) :=
  match s.ingress with
  | [] => none
  | o :: rest =>
    if s.currentOrder.isNone && !s.urgentFull && mine o then
      some (o, { s with ingress := rest, currentOrder := some o, answerReserved := true })
    else none

/-- The ANSWER enters its reserved place and the order is finished (R165, R171, R173). -/
def State.finishOrder (s : State) (o : Order) (b : AnswerBody) : State :=
  { s with
    urgent := s.urgent ++ [.answer o.number o.kind b]
    answerReserved := false
    currentOrder := none }

/-- The checks of an order: the envelope first, then the order's own (R172). -/
def checked {α : Type} (check : State → Order → Except RefusalCode α) (s : State) (o : Order) :
    Except RefusalCode α :=
  if o.truncated then .error .badOrder else check s o

/-- One order served: taken, checked, acted on and answered; a refused order has no action (R171, R172). A beacon
that the action made due may enter ahead of the ANSWER (R194). -/
def State.serve {α : Type} (s : State) (mine : Order → Bool) (check : State → Order → Except RefusalCode α)
    (act : α → State → State × AnswerBody) : State :=
  match s.takeOrder mine with
  | none => s
  | some (o, s1) =>
    match checked check s1 o with
    | .error c => s1.finishOrder o (.refused c)
    | .ok a => ((act a s1).1.beaconBeforeAnswer s.beaconDue).finishOrder o (act a s1).2

/-- A check that STARTUP refuses (R172 step 2). -/
def notInStartup {α : Type} (s : State) (rest : Except RefusalCode α) : Except RefusalCode α :=
  if s.startup then .error .notStarted else rest

/-- A lane after a reset, with its raw SEAT level sampled: the debounce timer starts where it is on (R30, R178). -/
def Lane.afterReset (seat : Bool) (line : List Byte) : Lane :=
  { Lane.reset with
    rawSeat := seat
    debounce := if seat then some LaneSettings.default.debounceTime else none
    txLine := line }

/-- Power-on: every block at its reset values (R178). -/
def State.poweredOn (s : State) (straps : BitVec 4) (seats : LaneSet) : State :=
  { State.reset with
    station := straps
    lanes := Vector.ofFn fun i => Lane.afterReset (inSet seats i) []
    choices := s.choices
    pending := s.pending }

/-- A RESET order that takes effect: as power-on, but the link keeps its status, the SEAT inputs stand as they
are, and a report frame on the wire is sent to its end (R170, R177, R178). -/
def State.resetByOrder (s : State) (straps : BitVec 4) : State :=
  { State.reset with
    station := straps
    lanes := Vector.ofFn fun i => Lane.afterReset (s.lane i).rawSeat (s.lane i).txLine
    linkUp := s.linkUp
    uplinkLine := s.uplinkLine
    choices := s.choices
    pending := s.pending }

/-- POWER_ON (R178). -/
def execPowerOn (straps : BitVec 4) (seats : LaneSet) (s : State) : Host.Outcome State Fault Refusal :=
  .next (s.poweredOn straps seats)

/-- RESET: with a body it is refused with BAD_ORDER; with an empty one it takes effect without an ANSWER
(R177). -/
def execReset (straps : BitVec 4) (s : State) : Host.Outcome State Fault Refusal :=
  .next
    (match s.takeOrder fun o => o.isKind .reset with
    | none => s
    | some (o, s1) =>
      match checked (fun _ o => parseEmpty o.body) s1 o with
      | .error c => s1.finishOrder o (.refused c)
      | .ok _ => s1.resetByOrder straps)

/-- UNKNOWN_ORDER_KIND: an order of none of the sixteen kinds is taken and refused with BAD_ORDER (R172). -/
def execUnknownOrderKind (s : State) : Host.Outcome State Fault Refusal :=
  .next (s.serve (fun o => !o.known) (fun _ _ => (.error .badOrder : Except RefusalCode Unit))
    fun _ s => (s, .refused .badOrder))

end Sys2Proof.Machine
end

