-- ==== Sys2Proof/Machine/LaneOrders.lean ====
section
/-! DEFINITION. The orders on lanes and on the board: RELAY, LINE, LANE-SET, CLEAR-VERDICT, UNLATCH, CLEAR-FLAGS,
RESUME and START (R47, R126, R127, R137, R176, R179, R180, R184, R185). -/

namespace Sys2Proof.Machine

open Sys2Proof

/-- The checks of a RELAY (R184). -/
def checkRelay (s : State) (o : Order) : Except RefusalCode (LaneId × List Byte) :=
  notInStartup s <|
    match parseRelay o.body with
    | .error c => .error c
    | .ok (i, payload) =>
      if (s.lane i).state.servesOwn = false then .error .laneState
      else if Config.txQueueSize ≤ (s.lane i).txQueue.length then .error .queueFull
      else .ok (i, payload)

/-- The RELAY taken: a PASS-ON at the tail of the lane's transmit queue (R184). -/
def actRelay (a : LaneId × List Byte) (s : State) : State × AnswerBody :=
  (s.updLane a.1 fun l => { l with txQueue := l.txQueue ++ [.passOn a.2] },
    .okRelay ((s.lane a.1).txQueue.length + 1))

/-- RELAY (R184). -/
def execRelay (s : State) : Host.Outcome State Fault Refusal :=
  .next (s.serve (fun o => o.isKind .relay) checkRelay actRelay)

/-- The checks of a LINE (R137). -/
def checkLine (s : State) (o : Order) : Except RefusalCode LineArgs := notInStartup s (parseLine o.body)

/-- The lines after a LINE's two actions (R131, R132, R134). -/
def State.actLines (s : State) (a : LineArgs) : State :=
  let s1 := match a.power with
    | some level => s.switchPower a.lane level
    | none => s
  match a.pulse with
  | some duration => s1.pulseKey a.lane duration
  | none => s1

/-- What a LINE's ANSWER gives (R137). -/
def Lane.lineAnswer (l : Lane) : AnswerBody :=
  .okLine l.state l.power l.keyPulse.isSome (l.keyPulse.getD 0) l.reject l.seat

/-- The LINE taken (R137). -/
def actLine (a : LineArgs) (s : State) : State × AnswerBody :=
  (s.actLines a, ((s.actLines a).lane a.lane).lineAnswer)

/-- LINE (R137). -/
def execLine (s : State) : Host.Outcome State Fault Refusal :=
  .next (s.serve (fun o => o.isKind .line) checkLine actLine)

/-- The checks of a LANE-SET: a rate change needs a lane that is OFF or EMPTY (R179). -/
def checkLaneSet (s : State) (o : Order) : Except RefusalCode LaneSetArgs :=
  match parseLaneSet o.body with
  | .error c => .error c
  | .ok a =>
    match a.rate with
    | none => .ok a
    | some r =>
      if r ≠ (s.lane a.lane).settings.rate ∧ (s.lane a.lane).state.occupied = true then .error .laneState
      else .ok a

/-- The timing fields and the retry limit stored (R180 step 1). -/
def LaneSettings.withTiming (t : LaneSettings) (a : LaneSetArgs) : LaneSettings :=
  { t with
    markWindow := a.markWindow.getD t.markWindow
    retryPause := a.retryPause.getD t.retryPause
    retryLimit := a.retryLimit.getD t.retryLimit
    gapLimit := a.gapLimit.getD t.gapLimit
    debounceTime := a.debounceTime.getD t.debounceTime
    announceLimit := a.announceLimit.getD t.announceLimit }

/-- A lane's settings changed. -/
def State.updSettings (s : State) (i : LaneId) (f : LaneSettings → LaneSettings) : State :=
  s.updLane i fun l => { l with settings := f l.settings }

/-- The LANE-SET's six steps (R180). -/
def State.setLane (s : State) (a : LaneSetArgs) : State :=
  let s1 := s.updSettings a.lane fun t => t.withTiming a
  let s2 :=
    if a.enable = some false ∧ (s1.lane a.lane).settings.enabled = true then s1.disableLane a.lane else s1
  let s3 := s2.updSettings a.lane fun t =>
    { t with rate := a.rate.getD t.rate, rejectEnable := a.rejectEnable.getD t.rejectEnable }
  let s4 := match a.autoPower with
    | some level => s3.setAutoPower a.lane level
    | none => s3
  if a.enable = some true ∧ (s4.lane a.lane).settings.enabled = false then s4.enableLane a.lane else s4

/-- The LANE-SET taken (R180). -/
def actLaneSet (a : LaneSetArgs) (s : State) : State × AnswerBody :=
  (s.setLane a, .okLaneSet ((s.setLane a).lane a.lane).settings ((s.setLane a).lane a.lane).state)

/-- LANE-SET (R179, R180). -/
def execLaneSet (s : State) : Host.Outcome State Fault Refusal :=
  .next (s.serve (fun o => o.isKind .laneSet) checkLaneSet actLaneSet)

/-- The check of an order whose body is a lane set (R126, R127, R185). -/
def checkLanes (_s : State) (o : Order) : Except RefusalCode LaneSet := parseLaneSetOnly o.body

/-- Every lane of a lane set changed, in lane order. -/
def State.updLanes (s : State) (set : LaneSet) (f : Lane → Lane) : State :=
  { s with lanes := Vector.ofFn fun i => if inSet set i then f (s.lane i) else s.lane i }

/-- One value per lane of a lane set, as an ANSWER gives it. -/
def State.perLane {α : Type} (s : State) (set : LaneSet) (f : Lane → α) : List (Option α) :=
  laneIds.map fun i => if inSet set i then some (f (s.lane i)) else none

/-- The CLEAR-VERDICT taken: records emptied, latches kept (R126). -/
def actClearVerdict (set : LaneSet) (s : State) : State × AnswerBody :=
  (s.updLanes set fun l => { l with board := l.board.emptied },
    .okClearVerdict (s.perLane set fun l => l.board.latch))

/-- CLEAR-VERDICT (R126). -/
def execClearVerdict (s : State) : Host.Outcome State Fault Refusal :=
  .next (s.serve (fun o => o.isKind .clearVerdict) checkLanes actClearVerdict)

/-- The UNLATCH taken: latches cleared, records kept (R127). -/
def actUnlatch (set : LaneSet) (s : State) : State × AnswerBody :=
  (s.updLanes set fun l => { l with board := { l.board with latch := false } },
    .okUnlatch (s.perLane set fun l => l.board.verdict))

/-- UNLATCH (R127). -/
def execUnlatch (s : State) : Host.Outcome State Fault Refusal :=
  .next (s.serve (fun o => o.isKind .unlatch) checkLanes actUnlatch)

/-- The CLEAR-FLAGS taken: flags and duplicate counters reported as they stood, then cleared (R185). -/
def actClearFlags (set : LaneSet) (s : State) : State × AnswerBody :=
  (s.updLanes set fun l => { l with flags := 0#12, dupCount := 0 },
    .okClearFlags (s.perLane set fun l => (l.flags, l.dupCount)))

/-- CLEAR-FLAGS (R185). -/
def execClearFlags (s : State) : Host.Outcome State Fault Refusal :=
  .next (s.serve (fun o => o.isKind .clearFlags) checkLanes actClearFlags)

/-- The checks of a RESUME (R47). -/
def checkResume (s : State) (o : Order) : Except RefusalCode LaneId :=
  notInStartup s <|
    match parseResume o.body with
    | .error c => .error c
    | .ok i => if (s.lane i).state = .stalled then .ok i else .error .laneState

/-- A lane resumed to BOUND: no event, the bind count and record kept (R47). -/
def Lane.resumedTo (l : Lane) (st : LaneState) : Lane := { l with state := st, resume := none }

/-- A STALLED lane returns according to its resume state (R47). An absent resume state, which no run gives a
STALLED lane, returns it to SEATED. -/
def State.resumeLane (s : State) (i : LaneId) : State :=
  match (s.lane i).resume with
  | some .held => s.updLane i fun l => l.resumedTo .held
  | some .bound =>
    if s.boundElsewhere i ((s.lane i).identity.getD []) then
      s.bindOrHold i ((s.lane i).identity.getD [])
    else s.updLane i fun l => l.resumedTo .bound
  | some .seated | none => s.updLane i fun l => (l.resumedTo .seated).announceStart

/-- The RESUME taken (R47). -/
def actResume (i : LaneId) (s : State) : State × AnswerBody :=
  (s.resumeLane i, .okResume ((s.resumeLane i).lane i).state)

/-- RESUME (R47). -/
def execResume (s : State) : Host.Outcome State Fault Refusal :=
  .next (s.serve (fun o => o.isKind .resume) checkResume actResume)

/-- One lane's part in START: an enabled lane leaves OFF (R176). -/
def State.startLane (s : State) (i : LaneId) : State :=
  if (s.lane i).settings.enabled = true ∧ (s.lane i).state = .off then s.leaveOff i else s

/-- START's effect: with STARTUP set it is cleared and the lanes are taken in order; else nothing (R176). -/
def State.startAll (s : State) : State :=
  if s.startup then laneIds.foldl State.startLane { s with startup := false } else s

/-- The START taken (R176). -/
def actStart (_ : Unit) (s : State) : State × AnswerBody :=
  (s.startAll, .okStart (laneIds.map fun i => (s.startAll.lane i).state))

/-- START (R176). -/
def execStart (s : State) : Host.Outcome State Fault Refusal :=
  .next (s.serve (fun o => o.isKind .start) (fun _ o => parseEmpty o.body) actStart)

end Sys2Proof.Machine
end

