-- ==== Sys2Proof/Machine/LaneReceive.lean ====
section
/-! DEFINITION. The receive side of a lane engine: hunting, complete frames, the MARK handshake and the receive
buffer (R10 to R17, R20, R21). Commands LANE_CHARACTER, GAP_TIMEOUT, LANE_FRAME_RECEIVED, MARK. -/

namespace Sys2Proof.Machine

open Sys2Proof

/-- Whether a frame's check word matches (R6). -/
def frameValid (f : RawFrame) : Bool := f.check == checkWord f.kind f.seq f.payload

/-- Room for one more MARK in the backlog (R18). -/
def Lane.markRoom (l : Lane) : Bool := decide (l.marks.length < Config.markBacklogSize)

/-- A MARK placed at the tail of the backlog (R13, R17). -/
def Lane.oweMark (l : Lane) (seq : Byte) (code : MarkCode) : Lane :=
  { l with marks := l.marks ++ [{ seq := seq, code := code }] }

/-- A complete frame with a bad check word (R13). -/
def State.checkFailed (s : State) (i : LaneId) (f : RawFrame) : State :=
  (s.setFlag i .rxCheck).updLane i fun l =>
    if f.kind != kindMark && l.markRoom then l.oweMark f.seq .spoilt else l

/-- A mode switch: mode, sequences, frame in flight and control slot (R8), and the restart a switch into LOADER
is (R40). -/
def State.switchMode (s : State) (i : LaneId) (framing : Framing) : State :=
  let s1 := s.updLane i fun l =>
    { l.abandon with mode := framing, lastTaken := none, txSeq := 0#8, control := none }
  if framing = .loader then s1.loaderRestart i else s1

/-- A resend counted: past the retry limit the lane stalls, else the frame takes its next phase (R21). -/
def State.countResend (s : State) (i : LaneId) (f : InFlight) (next : SendPhase) : State :=
  if (s.lane i).settings.retryLimit < f.resends + 1 then s.stall i
  else s.updLane i fun l => { l with inFlight := some { f with resends := f.resends + 1, phase := next } }

/-- A MARK on the frame in flight (R20). -/
def State.takeMark (s : State) (i : LaneId) (seq : Byte) (code : MarkCode) : State :=
  match (s.lane i).inFlight with
  | none => s
  | some f =>
    if seq ≠ f.seq then s
    else
      match code, f.phase with
      | .taken, _ => s.updLane i fun l => { l with inFlight := none }
      | .again, .awaiting _ => s.countResend i f (.paused (s.lane i).settings.retryPause)
      | .spoilt, .awaiting _ => (s.setFlag i .txSpoilt).countResend i f .due
      | .again, _ => s
      | .spoilt, _ => s

/-- A valid frame that is no MARK: the backlog, duplicate, malformed and room checks in their order (R15, R17). -/
def State.takeFrame (s : State) (i : LaneId) (f : RawFrame) : State :=
  let l := s.lane i
  if l.markRoom = false then s
  else if l.lastTaken = some f.seq then
    s.updLane i fun l =>
      { l.oweMark f.seq .taken with dupCount := satIncr Config.counterMax l.dupCount }
  else if Config.rxBufferSize ≤ l.rxBuffer.length then s.updLane i fun l => l.oweMark f.seq .again
  else if l.mode = .app ∧ frameMalformed f.kind f.payload = true then
    (s.updLane i fun l => { l.oweMark f.seq .taken with lastTaken := some f.seq }).setFlag i .noise
  else
    s.updLane i fun l =>
      { l.oweMark f.seq .taken with
        lastTaken := some f.seq
        rxBuffer := l.rxBuffer ++
          [{ framing := f.framing, kind := f.kind, seq := f.seq, payload := f.payload }] }

/-- A valid frame in the current mode, after any mode switch (R16). -/
def State.handleFrame (s : State) (i : LaneId) (f : RawFrame) : State :=
  if f.kind = kindMark then
    match markOfPayload f.payload with
    | none => s.setFlag i .noise
    | some (seq, code) => s.takeMark i seq code
  else s.takeFrame i f

/-- A complete frame on a lane whose receiver hunts (R4, R8, R10, R13, R16). -/
def State.receiveFrame (s : State) (i : LaneId) (f : RawFrame) : State :=
  if (s.lane i).state.occupied then
    let s1 := s.updLane i Lane.huntFresh
    if frameValid f then
      (if f.framing = (s.lane i).mode then s1 else s1.switchMode i f.framing).handleFrame i f
    else s1.checkFailed i f
  else s

/-- What one character does to the hunt state (R10, R11). -/
inductive HuntStep where
  /-- The next hunt state, and whether NOISE is set. -/
  | go (next : Hunt) (noise : Bool)
  /-- The frame is complete. -/
  | complete (frame : RawFrame)
  deriving DecidableEq, Repr

/-- The hunt state after a sequence byte, or after one more payload byte (R10). -/
def huntPayload (framing : Framing) (length : Nat) (kind seq : Byte) (got : List Byte) : Hunt :=
  if length ≤ got.length then .check framing kind seq got none else .payload framing length kind seq got

/-- One character with a good stop bit (R10, R11). -/
def huntStep (h : Hunt) (c : Byte) : HuntStep :=
  match h with
  | .hunt => if c = 0x5A#8 then .go .sync false else .go .hunt true
  | .sync =>
    if c = 0xC3#8 then .go (.length .app) false
    else if c = 0x3C#8 then .go (.length .loader) false
    else if c = 0x5A#8 then .go .sync true
    else .go .hunt true
  | .length framing => if c.toNat ≤ Config.maxPayload then .go (.kind framing c.toNat) false else .go .hunt true
  | .kind framing length => .go (.sequence framing length c) false
  | .sequence framing length kind => .go (huntPayload framing length kind c []) false
  | .payload framing length kind seq got => .go (huntPayload framing length kind seq (got ++ [c])) false
  | .check framing kind seq payload none => .go (.check framing kind seq payload (some c)) false
  | .check framing kind seq payload (some first) =>
    .complete { framing := framing, kind := kind, seq := seq, payload := payload, check := half first c }

/-- The hunt state entered, with the gap timer started where it is other than HUNT and stopped in HUNT (R12). -/
def Lane.enterHunt (l : Lane) (h : Hunt) : Lane :=
  { l with hunt := h, gapTimer := if h = .hunt then none else some l.settings.gapLimit }

/-- A character on a lane (R3, R4, R10, R11). -/
def State.receiveCharacter (s : State) (i : LaneId) (c : Byte) (stopLow : Bool) : State :=
  if (s.lane i).state.occupied then
    if stopLow then (s.updLane i Lane.huntFresh).setFlag i .noise
    else
      match huntStep (s.lane i).hunt c with
      | .go next noise =>
        let s1 := s.updLane i fun l => l.enterHunt next
        if noise then s1.setFlag i .noise else s1
      | .complete f => s.receiveFrame i f
  else s

/-- LANE_CHARACTER (R10). -/
def execLaneCharacter (i : LaneId) (c : Byte) (stopLow : Bool) (s : State) : Host.Outcome State Fault Refusal :=
  .next (s.receiveCharacter i c stopLow)

/-- GAP_TIMEOUT: the partial frame goes and TRUNCATED is set (R12). -/
def execGapTimeout (i : LaneId) (s : State) : Host.Outcome State Fault Refusal :=
  .next (if (s.lane i).gapTimer = some 0 then (s.updLane i Lane.huntFresh).setFlag i .truncated else s)

/-- LANE_FRAME_RECEIVED: the characters of a frame have all arrived (R10, R13, R15 to R17). -/
def execLaneFrameReceived (i : LaneId) (f : RawFrame) (s : State) : Host.Outcome State Fault Refusal :=
  .next (s.receiveFrame i f)

/-- MARK: the characters of a MARK frame have all arrived (R10, R13, R15, R20). -/
def execMark (i : LaneId) (framing : Framing) (seq : Byte) (payload : List Byte) (check : Half) (s : State) :
    Host.Outcome State Fault Refusal :=
  .next (s.receiveFrame i
    { framing := framing, kind := kindMark, seq := seq, payload := payload, check := check })

end Sys2Proof.Machine
end

