-- ==== Sys2Proof/Machine/LaneSend.lean ====
section
/-! DEFINITION. The send side of a lane engine: what the free transmitter chooses, and the timers of the frame
in flight (R18, R19, R21). Commands SEND_MARK, SEND_NEW_FRAME, SEND_RESEND, LAST_BYTE_OUT, MARK_WINDOW_EXPIRY,
RETRY_PAUSE_EXPIRY. -/

namespace Sys2Proof.Machine

open Sys2Proof

/-- The owed MARK goes out whole (R18). -/
def Lane.sendMark (l : Lane) : Lane :=
  match l.marks with
  | [] => l
  | m :: rest =>
    if l.state.occupied && !l.txBusy then { l with marks := rest, txLine := markFrameBytes l.mode m } else l

/-- The transmitter is free for the part's own frames: nothing is being sent, no MARK is owed, and the lane
state serves own frames (R18). -/
def Lane.freeForOwn (l : Lane) : Bool := l.state.servesOwn && !l.txBusy && l.marks.isEmpty

/-- The new frame the lane engine would take, and the lane with it taken from its holder (R19). -/
def Lane.chooseNew (l : Lane) : Option (OwnFrame × Lane) :=
  match l.control, l.txQueue with
  | some c, _ => some (.control c, { l with control := none })
  | none, q :: rest => some (.queued q, { l with txQueue := rest })
  | none, [] => none

/-- A new frame starts: it becomes the frame in flight under the transmit sequence, which advances (R19). -/
def Lane.startNew (l : Lane) : Lane :=
  if l.freeForOwn && l.inFlight.isNone then
    match l.chooseNew with
    | none => l
    | some (f, l') =>
      { l' with
        inFlight := some { frame := f, seq := l.txSeq, resends := 0, phase := .sending }
        txSeq := l.txSeq + 1
        txBusy := true
        txLine := ownFrameBytes l.mode f l.txSeq }
  else l

/-- A due resend starts (R18, R21). -/
def Lane.startResend (l : Lane) : Lane :=
  match l.inFlight with
  | some f =>
    if l.freeForOwn && f.phase == .due then
      { l with
        inFlight := some { f with phase := .sending }
        txBusy := true
        txLine := ownFrameBytes l.mode f.frame f.seq }
    else l
  | none => l

/-- The last byte is out: the transmitter is free, and a frame still in flight awaits its mark (R19 to R21). -/
def Lane.lastByteOut (l : Lane) : Lane :=
  { l with
    txBusy := false
    inFlight := l.inFlight.map fun f =>
      if f.phase = .sending then { f with phase := .awaiting l.settings.markWindow } else f }

/-- SEND_MARK (R18). -/
def execSendMark (i : LaneId) (s : State) : Host.Outcome State Fault Refusal :=
  .next (s.updLane i Lane.sendMark)

/-- SEND_NEW_FRAME (R18, R19). -/
def execSendNewFrame (i : LaneId) (s : State) : Host.Outcome State Fault Refusal :=
  .next (s.updLane i Lane.startNew)

/-- SEND_RESEND (R18, R21). -/
def execSendResend (i : LaneId) (s : State) : Host.Outcome State Fault Refusal :=
  .next (s.updLane i Lane.startResend)

/-- LAST_BYTE_OUT (R21). -/
def execLastByteOut (i : LaneId) (s : State) : Host.Outcome State Fault Refusal :=
  .next (s.updLane i Lane.lastByteOut)

/-- The mark window runs out: a resend is counted, and the frame is due at once (R21). -/
def State.markWindowOut (s : State) (i : LaneId) : State :=
  match (s.lane i).inFlight with
  | some f =>
    match f.phase with
    | .awaiting 0 => s.countResend i f .due
    | .awaiting (_ + 1) | .sending | .paused _ | .due => s
  | none => s

/-- MARK_WINDOW_EXPIRY (R21). -/
def execMarkWindowExpiry (i : LaneId) (s : State) : Host.Outcome State Fault Refusal :=
  .next (s.markWindowOut i)

/-- The retry pause runs out: the resend is due (R21). -/
def Lane.retryPauseOut (l : Lane) : Lane :=
  { l with
    inFlight := l.inFlight.map fun f =>
      match f.phase with
      | .paused 0 => { f with phase := .due }
      | .paused (_ + 1) | .sending | .awaiting _ | .due => f }

/-- RETRY_PAUSE_EXPIRY (R21). -/
def execRetryPauseExpiry (i : LaneId) (s : State) : Host.Outcome State Fault Refusal :=
  .next (s.updLane i Lane.retryPauseOut)

end Sys2Proof.Machine
end

