-- ==== Sys2Proof/Machine/Seat.lean ====
section
/-! DEFINITION. Seat sense and the pocket's timers (R29 to R32, R42, R134). Commands SEAT_CHANGE,
DEBOUNCE_EXPIRY, ANNOUNCE_EXPIRY, KEY_PULSE_EXPIRY. -/

namespace Sys2Proof.Machine

open Sys2Proof

/-- The raw SEAT input takes a level: the debounce timer starts where it now differs from the debounced level
and is stopped, and stops where it equals it (R29). -/
def Lane.seatChange (l : Lane) (level : Bool) : Lane :=
  { l with
    rawSeat := level
    debounce := if level = l.seat then none else l.debounce.or (some l.settings.debounceTime) }

/-- A debounced rise or fall, once the debounced level has changed (R31, R32). -/
def State.seatEdge (s : State) (i : LaneId) (level : Bool) : State :=
  match level, (s.lane i).state with
  | true, .empty => s.seatLane i
  | false, .seated | false, .bound | false, .held | false, .stalled => s.depart i .sense
  | _, _ => s

/-- The debounce timer runs out (R29). -/
def State.debounceOut (s : State) (i : LaneId) : State :=
  let l := s.lane i
  if l.debounce = some 0 then
    let s1 := s.updLane i fun l => { l with debounce := none, seat := l.rawSeat }
    if l.rawSeat = l.seat then s1 else s1.seatEdge i l.rawSeat
  else s

/-- The announce timer runs out (R42). -/
def State.announceOut (s : State) (i : LaneId) : State :=
  match (s.lane i).announce with
  | .running 0 =>
    ((s.updLane i fun l => { l with announce := .expired }).setFlag i .mute).recordEvent i .mute
  | .running (_ + 1) | .stopped | .expired => s

/-- SEAT_CHANGE (R29). -/
def execSeatChange (i : LaneId) (level : Bool) (s : State) : Host.Outcome State Fault Refusal :=
  .next (s.updLane i fun l => l.seatChange level)

/-- DEBOUNCE_EXPIRY (R29, R31, R32). -/
def execDebounceExpiry (i : LaneId) (s : State) : Host.Outcome State Fault Refusal := .next (s.debounceOut i)

/-- ANNOUNCE_EXPIRY (R42). -/
def execAnnounceExpiry (i : LaneId) (s : State) : Host.Outcome State Fault Refusal := .next (s.announceOut i)

/-- KEY_PULSE_EXPIRY: KEY is released (R134, R135). -/
def execKeyPulseExpiry (i : LaneId) (s : State) : Host.Outcome State Fault Refusal :=
  .next (s.updLane i fun l => if l.keyPulse = some 0 then { l with keyPulse := none } else l)

end Sys2Proof.Machine
end

