-- ==== Sys2Proof/Machine/StepOrders.lean ====
section
/-! DEFINITION. The step unit's orders STEP, ABORT and EXTEND (R54 to R65). -/

namespace Sys2Proof.Machine

open Sys2Proof

/-- The members a target resolves to; group 0 stands for all lanes (R52, R53). -/
def State.targetMembers (s : State) : StepTarget → LaneSet
  | .lanes set => set
  | .group n => s.groupLanes n

/-- The checks of a STEP (R54). -/
def checkStep (s : State) (o : Order) : Except RefusalCode StepArgs :=
  notInStartup s <|
    match parseStep o.body with
    | .error c => .error c
    | .ok a =>
      if s.idInUse a.stepId then .error .duplicateStep
      else if s.freeOrder = [] then .error .tableFull
      else .ok a

/-- The outcome a member lane gets at the take (R56 step 4). -/
def Lane.takeOutcome (l : Lane) : MemberOutcome :=
  if l.state ≠ .bound then .skipped
  else if Config.outstandingSize ≤ l.outstanding.length ∨ Config.txQueueSize ≤ l.txQueue.length then .overrun
  else .pending

/-- A PENDING member's outstanding entry and DO frame (R56, R58). -/
def Lane.takeStep (l : Lane) (r : RecordId) (a : StepArgs) : Lane :=
  { l with
    outstanding := l.outstanding ++ [{ stepId := a.stepId, record := r }]
    txQueue := l.txQueue ++ [.doStep a.stepId a.tag a.command] }

/-- A member entry at the take (R56 step 5). -/
def Member.fresh (o : MemberOutcome) : Member := { outcome := o, verdict := .none, count := 0, stat := none }

/-- One member lane examined at its turn (R56 step 4). -/
def State.examine (r : RecordId) (a : StepArgs) (s : State) (i : LaneId) : State :=
  let o := (s.lane i).takeOutcome
  let s1 := s.updRecord r fun n => { n with members := n.members.set i (some (Member.fresh o)) }
  if o = .pending then s1.updLane i fun l => l.takeStep r a else s1

/-- The record of a step as steps 1 and 6 of the take leave it, its members not yet examined (R56). -/
def StepArgs.record (a : StepArgs) : StepRecord :=
  { state := .opened, stepId := some a.stepId, stream := a.stream, deadline := some a.deadline,
    limitGroup := a.limitGroup, statEntry := a.statEntry, tag := a.tag, command := a.command,
    members := Vector.replicate 16 none, cause := none }

/-- A last ID cleared where a FREE record holds the ID that is opened again (R56 step 2). -/
def StepRecord.forget (n : StepRecord) (id : Half) : StepRecord :=
  if n.state = .free ∧ n.stepId = some id then { n with stepId := none } else n

/-- The step table with a step opened in a record: steps 1 and 2 of the take (R56). -/
def State.openStep (s : State) (r : RecordId) (a : StepArgs) : State :=
  { s with
    records := Vector.ofFn fun j => if j = r then a.record else (s.record j).forget a.stepId
    freeOrder := s.freeOrder.tail }

/-- A step taken into a record (R56), the closing check not yet made. -/
def State.takeStepInto (s : State) (r : RecordId) (a : StepArgs) : State :=
  (laneIds.filter fun i => inSet (s.targetMembers a.target) i).foldl (State.examine r a) (s.openStep r a)

/-- The STEP taken, with its ANSWER (R55 to R57). -/
def actStep (a : StepArgs) (s : State) : State × AnswerBody :=
  match s.freeOrder with
  | [] => (s, .refused .tableFull)
  | r :: _ =>
    let s1 := s.takeStepInto r a
    let n := s1.record r
    (s1.closingCheck r,
      .okStep a.deadline (laneSetOf n.isMember) (n.withOutcome .pending) (n.withOutcome .skipped)
        (n.withOutcome .overrun))

/-- STEP (R54 to R58). -/
def execStep (s : State) : Host.Outcome State Fault Refusal :=
  .next (s.serve (fun o => o.isKind .step) checkStep actStep)

/-- The checks of an ABORT (R64). -/
def checkAbort (s : State) (o : Order) : Except RefusalCode RecordId :=
  match parseAbort o.body with
  | .error c => .error c
  | .ok id =>
    match s.openRecord id with
    | none => .error .unknownStep
    | some r => .ok r

/-- The ABORT taken: the number of members made ABORTED is the number that owed (R64). -/
def actAbort (r : RecordId) (s : State) : State × AnswerBody :=
  (s.endStep r .aborted .aborted, .okAbort (s.record r).owing.length)

/-- ABORT (R64, R65). -/
def execAbort (s : State) : Host.Outcome State Fault Refusal :=
  .next (s.serve (fun o => o.isKind .abort) checkAbort actAbort)

/-- The checks of an EXTEND (R62). -/
def checkExtend (s : State) (o : Order) : Except RefusalCode (RecordId × Nat) :=
  match parseExtend o.body with
  | .error c => .error c
  | .ok (id, count) =>
    match s.openRecord id with
    | none => .error .unknownStep
    | some r => .ok (r, count)

/-- The EXTEND taken: the deadline timer is reloaded (R62). -/
def actExtend (a : RecordId × Nat) (s : State) : State × AnswerBody :=
  (s.updRecord a.1 fun n => { n with deadline := some a.2 }, .okExtend a.2)

/-- EXTEND (R62). -/
def execExtend (s : State) : Host.Outcome State Fault Refusal :=
  .next (s.serve (fun o => o.isKind .extend) checkExtend actExtend)

end Sys2Proof.Machine
end

