-- ==== Sys2Proof/Machine/TableOrders.lean ====
section
/-! DEFINITION. The orders on instruments, beacon and tables: INSTRUMENT-SET, BEACON-SET, LOAD and READ (R52,
R96 to R100, R138, R152, R181 to R183, R194). -/

namespace Sys2Proof.Machine

open Sys2Proof

/-- The INSTRUMENT-SET taken (R152): the hold limit stored, then an enable, a disable or neither. -/
def State.setInstrument (s : State) (k : InstrumentId) (enabled : Bool) (limit : Nat) : State :=
  let s1 := s.updInstrument k fun n => { n with holdLimit := limit }
  if enabled = (s.instrument k).enabled then s1
  else if enabled then s1.updInstrument k fun n => { n with enabled := true }
  else s1.disableInstrument k

/-- The INSTRUMENT-SET taken, with its ANSWER: for a disable, the lane revoked and the lanes denied (R152). -/
def actInstrumentSet (a : InstrumentId × Bool × Nat) (s : State) : State × AnswerBody :=
  let n := s.instrument a.1
  let disables := n.enabled && !a.2.1
  (s.setInstrument a.1 a.2.1 a.2.2,
    .okInstrumentSet a.2.1 a.2.2 (if disables then n.holder else none) (if disables then n.waiting else 0#16))

/-- INSTRUMENT-SET (R152, R153). -/
def execInstrumentSet (s : State) : Host.Outcome State Fault Refusal :=
  .next (s.serve (fun o => o.isKind .instrumentSet) (fun _ o => parseInstrumentSet o.body) actInstrumentSet)

/-- Whether the holding set holds a pair whose kind is in a notice mask (R194). -/
def State.holdsMasked (s : State) (mask : BitVec 9) : Bool :=
  laneIds.any fun i => s.holding[i] &&& mask != 0#9

/-- The BEACON-SET taken (R181, R194). -/
def State.setBeacon (s : State) (interval : Nat) (mask : BitVec 9) (sel : Selection) : State :=
  let s1 := { s with interval := interval, noticeMask := mask, selection := sel }
  if s1.holdsMasked mask then s1.requestEarly else s1

/-- The BEACON-SET taken, with its ANSWER (R181). -/
def actBeaconSet (a : Nat × BitVec 9 × Selection) (s : State) : State × AnswerBody :=
  (s.setBeacon a.1 a.2.1 a.2.2, .okBeaconSet a.1 a.2.1 a.2.2)

/-- BEACON-SET (R181, R194). -/
def execBeaconSet (s : State) : Host.Outcome State Fault Refusal :=
  .next (s.serve (fun o => o.isKind .beaconSet) (fun _ o => parseBeaconSet o.body) actBeaconSet)

/-! ### LOAD and READ -/

/-- Whether a LOAD or READ order's body names a table. -/
def Order.names (o : Order) (t : Table) : Bool := !o.body.isEmpty && byteAt o.body 0 == t.code

/-- The positions of an order's images whose image fails validation, in order. -/
def TableArgs.failing (a : TableArgs) : List Nat :=
  (List.range a.count.toNat).filter fun k => !limitImagePasses (a.image k)

/-- The checks of a LOAD of the LIMIT table, with LIMIT_INVALID last (R98, R182). -/
def checkLoadLimit (_s : State) (o : Order) : Except RefusalCode TableArgs :=
  match parseLoad o.body with
  | .error c => .error c
  | .ok a =>
    match a.failing with
    | k :: _ => .error (.limitInvalid (a.start.toNat + k))
    | [] => .ok a

/-- Whether image number `n - start` of a LOAD or READ exists for table index `n`. -/
def TableArgs.covers (a : TableArgs) (n : Nat) : Bool :=
  decide (a.start.toNat ≤ n) && decide (n < a.start.toNat + a.count.toNat)

/-- The LIMIT table with every image written at its index (R96). -/
def State.loadLimits (s : State) (a : TableArgs) : State :=
  { s with
    limits := Vector.ofFn fun k =>
      if a.covers k.val then limitOfBytes (a.image (k.val - a.start.toNat)) else s.limits[k] }

/-- The LOAD of LIMIT taken (R96). -/
def actLoadLimit (a : TableArgs) (s : State) : State × AnswerBody :=
  (s.loadLimits a, .okLoad a.table a.start a.count)

/-- LOAD_LIMIT: a LOAD of the LIMIT table, and any LOAD that names neither LIMIT nor GROUP, which its checks
refuse (R96 to R98, R182). -/
def execLoadLimit (s : State) : Host.Outcome State Fault Refusal :=
  .next (s.serve (fun o => o.isKind .load && !o.names .group) checkLoadLimit actLoadLimit)

/-- The GROUP table with every image written at its index; group 0 is not stored (R52). -/
def State.loadGroups (s : State) (a : TableArgs) : State :=
  { s with
    groups := Vector.ofFn fun g =>
      if a.covers (g.val + 1) then halfAt (a.image (g.val + 1 - a.start.toNat)) 0 else s.groups[g] }

/-- The LOAD of GROUP taken (R52). -/
def actLoadGroup (a : TableArgs) (s : State) : State × AnswerBody :=
  (s.loadGroups a, .okLoad a.table a.start a.count)

/-- LOAD_GROUP (R52, R182). -/
def execLoadGroup (s : State) : Host.Outcome State Fault Refusal :=
  .next (s.serve (fun o => o.isKind .load && o.names .group) (fun _ o => parseLoad o.body) actLoadGroup)

/-- The images a READ returns, in index order (R182). -/
def TableArgs.readImages (a : TableArgs) (image : Nat → List Byte) : List Byte :=
  ((List.range a.count.toNat).map fun k => image (a.start.toNat + k)).flatten

/-- The READ taken: its images as they stand (R182). -/
def State.readTable (s : State) (a : TableArgs) (image : Nat → List Byte) : State × AnswerBody :=
  (s, .okRead a.table a.start a.count (a.readImages image))

/-- The LIMIT image of an index (R100). -/
def State.limitImage (s : State) (n : Nat) : List Byte :=
  if h : n < 256 then limitBytes s.limits[n] else []

/-- The GROUP image of an index; group 0 reads as all lanes (R52). -/
def State.groupImage (s : State) (n : Nat) : List Byte := le16 (s.groupLanes n)

/-- The image of lane number `n`. -/
def State.laneImage (s : State) (bytes : Lane → List Byte) (n : Nat) : List Byte :=
  if h : 1 ≤ n ∧ n ≤ 16 then bytes (s.lane ⟨n - 1, by omega⟩) else []

/-- READ_LIMIT: a READ of the LIMIT table, and any READ that names none of the four, which its checks refuse
(R100, R182). -/
def execReadLimit (s : State) : Host.Outcome State Fault Refusal :=
  .next (s.serve
    (fun o => o.isKind .read && !o.names .group && !o.names .roster && !o.names .board)
    (fun _ o => parseRead o.body) fun a s => s.readTable a s.limitImage)

/-- READ_GROUP (R52, R182). -/
def execReadGroup (s : State) : Host.Outcome State Fault Refusal :=
  .next (s.serve (fun o => o.isKind .read && o.names .group) (fun _ o => parseRead o.body)
    fun a s => s.readTable a s.groupImage)

/-- READ_ROSTER (R182, R183). -/
def execReadRoster (s : State) : Host.Outcome State Fault Refusal :=
  .next (s.serve (fun o => o.isKind .read && o.names .roster) (fun _ o => parseRead o.body)
    fun a s => s.readTable a (s.laneImage rosterBytes))

/-- READ_BOARD (R138, R182). -/
def execReadBoard (s : State) : Host.Outcome State Fault Refusal :=
  .next (s.serve (fun o => o.isKind .read && o.names .board) (fun _ o => parseRead o.body)
    fun a s => s.readTable a (s.laneImage boardImageBytes))

end Sys2Proof.Machine
end

