-- ==== Sys2Proof/Machine/Timers.lean ====
section
/-! DEFINITION. The timers of instruments and steps (R63, R149). Commands HOLD_EXPIRY, DEADLINE_EXPIRY. An expiry
has its effect when its timer's count has run out (assumption 4), so a timer reloaded, restarted or stopped before has
none (R66, R156). -/

namespace Sys2Proof.Machine

open Sys2Proof

/-- A hold that reached its hold limit (R149). -/
def State.revokeHold (s : State) (k : InstrumentId) (i : LaneId) : State :=
  ((((s.updInstrument k fun n => { n.freed with revoked := addLane n.revoked i }).setFlag i
    .holdOver).placeControl i .revoke k).reportInstrument k .revoked i 0).chooseNext k

/-- The hold timer of an instrument runs out. -/
def State.holdOut (s : State) (k : InstrumentId) : State :=
  match (s.instrument k).holder, (s.instrument k).holdTimer with
  | some i, some 0 => s.revokeHold k i
  | _, _ => s

/-- HOLD_EXPIRY (R149). -/
def execHoldExpiry (k : InstrumentId) (s : State) : Host.Outcome State Fault Refusal := .next (s.holdOut k)

/-- The deadline timer of a record runs out (R63). -/
def State.deadlineOut (s : State) (r : RecordId) : State :=
  if (s.record r).state = .opened ∧ (s.record r).deadline = some 0 then
    s.endStep r .expired .deadline
  else s

/-- DEADLINE_EXPIRY (R63). -/
def execDeadlineExpiry (r : RecordId) (s : State) : Host.Outcome State Fault Refusal := .next (s.deadlineOut r)

end Sys2Proof.Machine
end

