-- ==== Sys2Proof/Machine/Uplink.lean ====
section
/-! DEFINITION. The uplink port (R158 to R170): frames in, the bulk hold, link status and egress service.
Commands LINK_UP, LINK_DOWN, UPLINK_FRAME, PAUSE, BULK_HOLD_EXPIRY, REPORT_FRAME_START, SUMMARY_ENQUEUE. -/

namespace Sys2Proof.Machine

open Sys2Proof

/-- LINK_UP (R168). -/
def execLinkUp (s : State) : Host.Outcome State Fault Refusal := .next { s with linkUp := true }

/-- LINK_DOWN (R168). -/
def execLinkDown (s : State) : Host.Outcome State Fault Refusal := .next { s with linkUp := false }

/-- A damaged frame is discarded and counted (R158). -/
def State.countDamaged (s : State) : State := { s with fcsDrops := satIncr Config.counterMax s.fcsDrops }

/-- A PAUSE's pause time: above 0 it starts the bulk hold timer afresh, 0 stops it (R160). -/
def State.holdBulk (s : State) (quanta : Nat) : State :=
  { s with bulkHold := if quanta = 0 then none else some (quanta * Config.quantumBits) }

/-- An order offered to the ingress queue: the host address follows an order that enters, a full queue drops and
counts it (R163, R164). -/
def State.offerOrder (s : State) (source : List Byte) (o : Order) : State :=
  if s.ingress.length < Config.ingressSize then
    { s with ingress := s.ingress ++ [o], hostAddress := some source }
  else { s with ingressDrops := satIncr Config.counterMax s.ingressDrops }

/-- A frame that is not damaged: flow control first, then filter and envelope (R159, R160, R162). -/
def State.takeUplinkFrame (s : State) (f : List Byte) : State :=
  if isPauseFrame s.station f then s.holdBulk (pauseQuanta f)
  else if passesFilter s.station f then
    match envelopeOrder s.station f with
    | some o => s.offerOrder (frameSource f) o
    | none => s
  else s

/-- UPLINK_FRAME: no frame is received while the link is down; a damaged one is counted whatever it carries
(R158, R159, R162, R168). -/
def execUplinkFrame (f : List Byte) (rxError : Bool) (s : State) : Host.Outcome State Fault Refusal :=
  .next
    (if s.linkUp then (if frameDamaged f rxError then s.countDamaged else s.takeUplinkFrame f) else s)

/-- PAUSE: as an uplink frame of type 8808h, which to another destination or with another opcode is ignored
(R158, R160, R168). -/
def execPause (f : List Byte) (rxError : Bool) (s : State) : Host.Outcome State Fault Refusal :=
  .next
    (if s.linkUp then
      (if frameDamaged f rxError then s.countDamaged
        else if isPauseFrame s.station f then s.holdBulk (pauseQuanta f) else s)
    else s)

/-- The bulk hold timer runs out: less than a millisecond of it was left (R160). -/
def State.bulkHoldOut (s : State) : State :=
  if s.bulkHold.any fun left => decide (left < Config.bitsPerMs) then { s with bulkHold := none } else s

/-- BULK_HOLD_EXPIRY: the hold ends (R160). -/
def execBulkHoldExpiry (s : State) : Host.Outcome State Fault Refusal := .next s.bulkHoldOut

/-- Where report frames go: the host address, broadcast while it is absent (R163). -/
def State.reportDestination (s : State) : List Byte := s.hostAddress.getD broadcastAddress

/-- The free transmitter chooses: the urgent head, else the bulk head when bulk is not held; the report leaves
its queue and its frame is built as it starts (R167). -/
def State.startReport (s : State) : State :=
  if s.linkUp then
    match s.urgent, s.bulk with
    | r :: rest, _ =>
      { s with
        urgent := rest
        uplinkLine := reportFrameBytes s.reportDestination s.station r.kind r.number r.body }
    | [], r :: rest =>
      if s.bulkHold.isNone then
        { s with
          bulk := rest
          uplinkLine := reportFrameBytes s.reportDestination s.station r.kind 0#16 r.body }
      else s
    | [], [] => s
  else s

/-- REPORT_FRAME_START (R167). -/
def execReportFrameStart (s : State) : Host.Outcome State Fault Refusal := .next s.startReport

/-- SUMMARY_ENQUEUE (R69, R90). -/
def execSummaryEnqueue (s : State) : Host.Outcome State Fault Refusal := .next s.enterSummary

end Sys2Proof.Machine
end

