-- ==== Sys2Proof/Machine/Dispatch.lean ====
section
/-! DEFINITION. The effect of every command on everything but the queue of commands: one arm per row of the
table of operations and events. -/

namespace Sys2Proof.Machine

open Sys2Proof

/-- The effect of a command. -/
def exec (i : Instr) (s : State) : Host.Outcome State Fault Refusal :=
  match i with
  | .powerOn straps seats => Sys2Proof.Machine.execPowerOn straps seats s
  | .linkUp => Sys2Proof.Machine.execLinkUp s
  | .linkDown => Sys2Proof.Machine.execLinkDown s
  | .uplinkFrame bytes rxError => Sys2Proof.Machine.execUplinkFrame bytes rxError s
  | .pause bytes rxError => Sys2Proof.Machine.execPause bytes rxError s
  | .bulkHoldExpiry => Sys2Proof.Machine.execBulkHoldExpiry s
  | .reportFrameStart => Sys2Proof.Machine.execReportFrameStart s
  | .summaryEnqueue => Sys2Proof.Machine.execSummaryEnqueue s
  | .step => Sys2Proof.Machine.execStep s
  | .abort => Sys2Proof.Machine.execAbort s
  | .extend => Sys2Proof.Machine.execExtend s
  | .relay => Sys2Proof.Machine.execRelay s
  | .line => Sys2Proof.Machine.execLine s
  | .laneSet => Sys2Proof.Machine.execLaneSet s
  | .instrumentSet => Sys2Proof.Machine.execInstrumentSet s
  | .beaconSet => Sys2Proof.Machine.execBeaconSet s
  | .loadLimit => Sys2Proof.Machine.execLoadLimit s
  | .loadGroup => Sys2Proof.Machine.execLoadGroup s
  | .readLimit => Sys2Proof.Machine.execReadLimit s
  | .readGroup => Sys2Proof.Machine.execReadGroup s
  | .readRoster => Sys2Proof.Machine.execReadRoster s
  | .readBoard => Sys2Proof.Machine.execReadBoard s
  | .clearVerdict => Sys2Proof.Machine.execClearVerdict s
  | .unlatch => Sys2Proof.Machine.execUnlatch s
  | .clearFlags => Sys2Proof.Machine.execClearFlags s
  | .resume => Sys2Proof.Machine.execResume s
  | .start => Sys2Proof.Machine.execStart s
  | .reset straps => Sys2Proof.Machine.execReset straps s
  | .unknownOrderKind => Sys2Proof.Machine.execUnknownOrderKind s
  | .laneCharacter lane char stopLow => Sys2Proof.Machine.execLaneCharacter lane char stopLow s
  | .gapTimeout lane => Sys2Proof.Machine.execGapTimeout lane s
  | .laneFrameReceived lane frame => Sys2Proof.Machine.execLaneFrameReceived lane frame s
  | .mark lane framing seq payload check => Sys2Proof.Machine.execMark lane framing seq payload check s
  | .sendMark lane => Sys2Proof.Machine.execSendMark lane s
  | .sendNewFrame lane => Sys2Proof.Machine.execSendNewFrame lane s
  | .sendResend lane => Sys2Proof.Machine.execSendResend lane s
  | .lastByteOut lane => Sys2Proof.Machine.execLastByteOut lane s
  | .markWindowExpiry lane => Sys2Proof.Machine.execMarkWindowExpiry lane s
  | .retryPauseExpiry lane => Sys2Proof.Machine.execRetryPauseExpiry lane s
  | .seatChange lane level => Sys2Proof.Machine.execSeatChange lane level s
  | .debounceExpiry lane => Sys2Proof.Machine.execDebounceExpiry lane s
  | .announceExpiry lane => Sys2Proof.Machine.execAnnounceExpiry lane s
  | .keyPulseExpiry lane => Sys2Proof.Machine.execKeyPulseExpiry lane s
  | .hello => Sys2Proof.Machine.execHello s
  | .result => Sys2Proof.Machine.execResult s
  | .text => Sys2Proof.Machine.execText s
  | .claim => Sys2Proof.Machine.execClaim s
  | .release => Sys2Proof.Machine.execRelease s
  | .holdExpiry instrument => Sys2Proof.Machine.execHoldExpiry instrument s
  | .deadlineExpiry record => Sys2Proof.Machine.execDeadlineExpiry record s
  | .intervalExpiry => Sys2Proof.Machine.execIntervalExpiry s
  | .spacingExpiry => Sys2Proof.Machine.execSpacingExpiry s
  | .beaconEntry => Sys2Proof.Machine.execBeaconEntry s

end Sys2Proof.Machine
end

