-- ==== Sys2Proof/Safety.lean ====
section
/-! DEFINITION. The laws the spec states of the whole part, as predicates of a state, and the terms in which the
statements speak of orders and of the part outside one lane. -/

namespace Sys2Proof

open Sys2Proof.Machine

/-! ### Laws -/

/-- Queues, lists and counters keep to their sizes (R2, R18, R23, R25, R60, R119, R164 to R166, R169). -/
structure CapacityLaw (s : State) : Prop where
  lanes : ∀ i : LaneId,
    (s.lane i).txQueue.length ≤ 8 ∧ (s.lane i).marks.length ≤ 4 ∧ (s.lane i).rxBuffer.length ≤ 2
      ∧ (s.lane i).outstanding.length ≤ 4 ∧ (s.lane i).dupCount ≤ 65535 ∧ (s.lane i).bindCount ≤ 255
      ∧ (s.lane i).board.passCount ≤ 65535 ∧ (s.lane i).board.marginalCount ≤ 65535
      ∧ (s.lane i).board.failCount ≤ 65535
  ingress : s.ingress.length ≤ 8
  urgent : s.urgent.length + (if s.answerReserved then 1 else 0) ≤ 32
  bulk : s.bulk.length ≤ 64
  drops : s.fcsDrops ≤ 65535 ∧ s.ingressDrops ≤ 65535 ∧ s.urgentDrops ≤ 65535 ∧ s.bulkDrops ≤ 65535

/-- No two lanes in state BOUND hold equal identities (R35). -/
def IdentityLaw (s : State) : Prop :=
  ∀ i j : LaneId, i ≠ j → (s.lane i).state = .bound → (s.lane j).state = .bound →
    (s.lane i).identity ≠ none → (s.lane i).identity ≠ (s.lane j).identity

/-- While STARTUP is set, every lane is in state OFF (R33). -/
def StartupLaw (s : State) : Prop := s.startup = true → ∀ i : LaneId, (s.lane i).state = .off

/-- What a lane's engine holds in each lane state (R25, R28, R60): nothing at all without a phone, nothing of the
part's own when STALLED, and outstanding entries only when BOUND. -/
def EngineLaw (s : State) : Prop :=
  ∀ i : LaneId,
    ((s.lane i).state.occupied = false → (s.lane i).marks = [] ∧ (s.lane i).rxBuffer = [])
      ∧ ((s.lane i).state.servesOwn = false →
          (s.lane i).inFlight = none ∧ (s.lane i).control = none ∧ (s.lane i).txQueue = [])
      ∧ ((s.lane i).state ≠ .bound → (s.lane i).outstanding = [])

/-- A holder is a BOUND lane; a waiting list holds only BOUND lanes and never its holder; lanes wait only while there
is a holder; a revoked set holds only BOUND lanes; a disabled instrument has no holder (R141, R150, R151). -/
def ArbiterLaw (s : State) : Prop :=
  ∀ k : InstrumentId,
    (∀ i, (s.instrument k).holder = some i →
        (s.lane i).state = .bound ∧ inSet (s.instrument k).waiting i = false)
      ∧ (∀ i, inSet (s.instrument k).waiting i = true →
          (s.lane i).state = .bound ∧ (s.instrument k).holder.isSome = true)
      ∧ (∀ i, inSet (s.instrument k).revoked i = true → (s.lane i).state = .bound)
      ∧ ((s.instrument k).enabled = false → (s.instrument k).holder = none)
      ∧ ((s.instrument k).holder = none → (s.instrument k).holdTimer = none)

/-- The step table, the free order and the closing list agree, and no two non-FREE records carry one step ID (R51,
R68). -/
structure TableLaw (s : State) : Prop where
  free : s.freeOrder.Nodup ∧ ∀ r : RecordId, r ∈ s.freeOrder ↔ (s.record r).state = .free
  closing : s.closing.Nodup ∧ ∀ r : RecordId, r ∈ s.closing ↔ (s.record r).state = .closing
  ids : ∀ r : RecordId, (s.record r).state ≠ .free →
    (s.record r).stepId ≠ none ∧ (s.record r).stepId ≠ some 0#16
  distinct : ∀ r r' : RecordId, r ≠ r' → (s.record r).state ≠ .free → (s.record r').state ≠ .free →
    (s.record r).stepId ≠ (s.record r').stepId

/-- The outstanding lists and the step table are two views of one fact (R60): every entry names an OPEN step by its ID
and record index and an owing member of it, no list names a step twice, and every owing member of an OPEN step has its
entry. -/
def OwingLaw (s : State) : Prop :=
  ∀ i : LaneId,
    (∀ e ∈ (s.lane i).outstanding,
        (s.record e.record).state = .opened ∧ (s.record e.record).stepId = some e.stepId
          ∧ (s.record e.record).owes i = true)
      ∧ ((s.lane i).outstanding.map OutEntry.record).Nodup
      ∧ (∀ r : RecordId, (s.record r).state = .opened → (s.record r).owes i = true →
          ∃ e ∈ (s.lane i).outstanding, e.record = r)

/-- The heartbeat bits of the BEACONs in the urgent queue, oldest first. -/
def beaconBits (l : List UrgentReport) : List Bool :=
  l.filterMap fun r =>
    match r with
    | .beacon b => some b.heartbeat
    | .answer _ _ _ | .departure _ _ _ _ _ | .instrument _ _ _ _ _ => none

/-- The SUMMARYs in the bulk queue, oldest first. -/
def summariesOf (l : List BulkReport) : List SummaryBody :=
  l.filterMap fun r =>
    match r with
    | .summary b => some b
    | .copy _ _ _ _ | .text _ _ _ _ _ => none

/-- The IDs of the steps that are OPEN or CLOSING. -/
def carriedIds (s : State) : List Half :=
  (List.finRange 32).filterMap fun r => if (s.record r).state = .free then none else (s.record r).stepId

/-- The ID of the step that is taken in a step from `s` to `t`: the STEP order at the head of the ingress queue has
left it and is answered OK. -/
def takenId (s t : State) : List Half :=
  match s.pending, s.ingress, t.urgent.getLast? with
  | .step :: _, o :: rest, some (.answer _ _ (.okStep _ _ _ _ _)) =>
    if t.ingress = rest then [halfAt o.body 0] else []
  | _, _, _ => []

/-- Every law the statements keep. -/
structure Lawful (s : State) : Prop where
  capacity : CapacityLaw s
  identity : IdentityLaw s
  startup  : StartupLaw s
  engine   : EngineLaw s
  arbiter  : ArbiterLaw s
  table    : TableLaw s
  owing    : OwingLaw s

/-! ### Terms of the statements: orders and the dispatcher -/

/-- The order unit can take `o` next: `o` heads the ingress queue with its whole body present, there is no current
order, and the urgent queue has a free place (R164, R165, R171). -/
def OrderReady (s : State) (o : Order) (rest : List Order) : Prop :=
  s.ingress = o :: rest ∧ o.body.length = o.declared ∧ s.currentOrder = none ∧ s.answerReserved = false
    ∧ s.urgent.length < 32

/-- The part with `o` taken and answered with `b`, and nothing else changed. -/
def Machine.State.answered (s : State) (o : Order) (rest : List Order) (b : AnswerBody) : State :=
  { s with ingress := rest, urgent := s.urgent ++ [.answer o.number o.kind b] }

/-- The part with `o` taken and its action not begun: the order is current, and one place is reserved for its ANSWER
(R171). -/
def Machine.State.taken (s : State) (o : Order) (rest : List Order) : State :=
  { s with ingress := rest, currentOrder := some o, answerReserved := true }

/-- The part with the current order `o` finished: its ANSWER `b` has entered the reserved place (R171). -/
def Machine.State.finished (u : State) (o : Order) (b : AnswerBody) : State :=
  { u with urgent := u.urgent ++ [.answer o.number o.kind b], answerReserved := false, currentOrder := none }

/-- The part with one lane replaced, and nothing else changed. -/
def Machine.State.withLane (s : State) (i : LaneId) (l : Lane) : State := { s with lanes := s.lanes.set i l }

/-- The part with one instrument record replaced, and nothing else changed. -/
def Machine.State.withInstrument (s : State) (k : InstrumentId) (n : Instrument) : State :=
  { s with instruments := s.instruments.set k n }

/-- The frame `f` of lane `i` is the one the dispatcher takes next: the oldest of its buffer, every buffer earlier in
the rotation being empty (R48). -/
def NextFrame (s : State) (i : LaneId) (f : RxFrame) (rest : List RxFrame) : Prop :=
  (s.lane i).rxBuffer = f :: rest
    ∧ ∀ j : LaneId, (j - s.pointer - 1).val < (i - s.pointer - 1).val → (s.lane j).rxBuffer = []

/-- The command by which the order unit takes an order: by its kind, and for LOAD and READ by the table its body
names. -/
def commandFor (straps : BitVec 4) (o : Order) : Instr :=
  match o.kind.toNat with
  | 0x01 => .step
  | 0x02 => .abort
  | 0x03 => .extend
  | 0x04 => .relay
  | 0x05 => .line
  | 0x06 => .laneSet
  | 0x07 => .instrumentSet
  | 0x08 => .beaconSet
  | 0x09 => if o.body.head? = some 0x02#8 then .loadGroup else .loadLimit
  | 0x0A =>
    if o.body.head? = some 0x02#8 then .readGroup
    else if o.body.head? = some 0x03#8 then .readRoster
    else if o.body.head? = some 0x04#8 then .readBoard
    else .readLimit
  | 0x0B => .clearVerdict
  | 0x0C => .unlatch
  | 0x0D => .clearFlags
  | 0x0E => .resume
  | 0x0F => .start
  | 0x10 => .reset straps
  | _ => .unknownOrderKind

/-- The commands by which the order unit takes an order. -/
def orderCommand : Instr → Bool
  | .step | .abort | .extend | .relay | .line | .laneSet | .instrumentSet | .beaconSet | .loadLimit
  | .loadGroup | .readLimit | .readGroup | .readRoster | .readBoard | .clearVerdict | .unlatch | .clearFlags
  | .resume | .start | .reset _ | .unknownOrderKind => true
  | .powerOn _ _ | .linkUp | .linkDown | .uplinkFrame _ _ | .pause _ _ | .bulkHoldExpiry | .reportFrameStart
  | .summaryEnqueue | .laneCharacter _ _ _ | .gapTimeout _ | .laneFrameReceived _ _ | .mark _ _ _ _ _
  | .sendMark _ | .sendNewFrame _ | .sendResend _ | .lastByteOut _ | .markWindowExpiry _
  | .retryPauseExpiry _ | .seatChange _ _ | .debounceExpiry _ | .announceExpiry _ | .keyPulseExpiry _
  | .hello | .result | .text | .claim | .release | .holdExpiry _ | .deadlineExpiry _ | .intervalExpiry
  | .spacingExpiry | .beaconEntry => false

/-- Whether a report is an ANSWER. -/
def isAnswer : UrgentReport → Bool
  | .answer _ _ _ => true
  | .beacon _ | .departure _ _ _ _ _ | .instrument _ _ _ _ _ => false

/-- The command that brings a complete lane frame: MARK where its kind byte reads MARK. -/
def frameCommand (i : LaneId) (f : RawFrame) : Instr :=
  if f.kind = 0x20#8 then .mark i f.framing f.seq f.payload f.check else .laneFrameReceived i f

/-- A run of commands, one after another, up to the first that does not answer a next state. -/
def runAll : List Instr → State → Host.Outcome State Fault Refusal
  | [], s => .next s
  | c :: cs, s =>
    match exec c s with
    | .next t => runAll cs t
    | .fault r => .fault r
    | .refused r => .refused r

/-! ### Terms of the statements: reset -/

/-- The values after a reset, block by block (R178), for the strap pins and the raw SEAT levels then found. -/
structure ResetValues (straps : BitVec 4) (raw : LaneId → Bool) (t : State) : Prop where
  orderUnit : t.startup = true ∧ t.currentOrder = none
  engines : ∀ i : LaneId,
    (t.lane i).state = .off ∧ (t.lane i).mode = .app ∧ (t.lane i).txQueue = [] ∧ (t.lane i).control = none
      ∧ (t.lane i).inFlight = none ∧ (t.lane i).rxBuffer = [] ∧ (t.lane i).marks = []
      ∧ (t.lane i).txSeq = 0#8 ∧ (t.lane i).lastTaken = none ∧ (t.lane i).hunt = .hunt
      ∧ (t.lane i).gapTimer = none ∧ (t.lane i).txBusy = false ∧ (t.lane i).flags = 0#12
      ∧ (t.lane i).dupCount = 0
  settings : ∀ i : LaneId, (t.lane i).settings =
    { enabled := true, rate := .baud921600, markWindow := 20, retryPause := 10, retryLimit := 8,
      gapLimit := 5, debounceTime := 50, announceLimit := 30, autoPower := false, rejectEnable := true }
  lines : ∀ i : LaneId,
    (t.lane i).power = false ∧ (t.lane i).keyPulse = none ∧ (t.lane i).reject = false
  seatSense : ∀ i : LaneId,
    (t.lane i).seat = false ∧ (t.lane i).rawSeat = raw i
      ∧ (t.lane i).debounce = (if raw i then some 50 else none)
  roster : ∀ i : LaneId,
    (t.lane i).identity = none ∧ (t.lane i).bindCount = 0 ∧ (t.lane i).resume = none
      ∧ (t.lane i).announce = .stopped
  dispatcher : t.pointer = 15
  stepUnit : (∀ r : RecordId,
      (t.record r).state = .free ∧ (t.record r).stepId = none ∧ (t.record r).deadline = none)
    ∧ t.freeOrder = List.finRange 32 ∧ t.closing = [] ∧ (∀ g : Fin 31, t.groups[g] = 0#16)
    ∧ ∀ i : LaneId, (t.lane i).outstanding = []
  judge : ∀ k : LimitId, t.limits[k] =
    { valid := false, group := 0#8, tag := 0#8, fieldIndex := 0#8, kind := 0#8, severity := 0#8,
      exponent := 0#8, low := 0#32, high := 0#32, guard := 0#32, digest := 0#16 }
  board : ∀ i : LaneId, (t.lane i).board =
    { verdict := .none, passCount := 0, marginalCount := 0, failCount := 0, firstFailure := none,
      latch := false }
  arbiter : ∀ k : InstrumentId, t.instrument k =
    { enabled := false, holder := none, holdLimit := 0, holdTimer := none, waiting := 0#16,
      lastGranted := 15, revoked := 0#16 }
  uplink : t.ingress = [] ∧ t.urgent = [] ∧ t.answerReserved = false ∧ t.bulk = [] ∧ t.hostAddress = none
    ∧ t.bulkHold = none ∧ t.fcsDrops = 0 ∧ t.ingressDrops = 0 ∧ t.urgentDrops = 0 ∧ t.bulkDrops = 0
    ∧ t.station = straps
  beacon : t.heartbeat = false ∧ (∀ i : LaneId, t.holding[i] = 0#9) ∧ t.noticeMask = 0#9
    ∧ t.selection = .verdicts ∧ t.interval = 1000 ∧ t.intervalTimer = none ∧ t.spacingTimer = none
    ∧ t.earlyRequest = false ∧ t.beaconDue = true

/-! ### Terms of the statements: reports and events -/

/-- Exactly the events of a list join the holding set, and the first masked one asks for an early beacon (R187, R189).
-/
def EventsRecorded (s t : State) (events : List (LaneId × EventKind)) : Prop :=
  (∀ i : LaneId, t.holding[i] =
      events.foldl (fun w e => if e.1 = i then withEvent w e.2 else w) s.holding[i])
    ∧ (if s.beaconDue = false ∧ (∃ e ∈ events, hasEvent s.noticeMask e.2 = true) then
        (if s.spacingTimer = none then
          t.beaconDue = true ∧ t.intervalTimer = none ∧ t.earlyRequest = false
        else t.beaconDue = false ∧ t.intervalTimer = s.intervalTimer ∧ t.earlyRequest = true)
      else t.beaconDue = s.beaconDue ∧ t.intervalTimer = s.intervalTimer
        ∧ t.earlyRequest = s.earlyRequest)

/-- The places of the urgent queue that are taken, an ANSWER's reservation among them (R165). -/
def urgentTaken (s : State) : Nat := s.urgent.length + (if s.answerReserved then 1 else 0)

/-- The urgent queue and its drop counter after reports are offered one after another (R165). A counter never falls.
-/
def UrgentOffered (s t : State) (reports : List UrgentReport) : Prop :=
  t.urgent = s.urgent ++ reports.take (32 - urgentTaken s)
    ∧ t.urgentDrops =
        max s.urgentDrops (min 65535 (s.urgentDrops + (reports.length - (32 - urgentTaken s))))

/-- The part `t` after an order whose action has led from `s` to `u`: the ANSWER enters its reserved place behind the
action's reports (R171). Where the action made a beacon due and a place besides the reserved one is free, the beacon
may enter first (R194); which happens is free, and `choices` counts it. -/
def AnswerFollows (s u t : State) (o : Order) (b : AnswerBody) : Prop :=
  if s.beaconDue = false ∧ u.beaconDue = true ∧ urgentTaken u < 32 then
    t = { u.finished o b with choices := u.choices + 1 }
      ∨ ∃ v, exec .beaconEntry u = .next v ∧ t = { v.finished o b with choices := u.choices + 1 }
  else t = u.finished o b

/-- The bulk queue and its drop counter after a COPY or TEXT report is offered (R166). -/
def BulkOffered (s t : State) (report : BulkReport) : Prop :=
  if s.bulk.length < 64 ∧ s.closing = [] then t.bulk = s.bulk ++ [report] ∧ t.bulkDrops = s.bulkDrops
  else t.bulk = s.bulk ∧ t.bulkDrops = max s.bulkDrops (min 65535 (s.bulkDrops + 1))

/-! ### Terms of the statements: steps -/

/-- The bytes of a STEP body (R200); `reserved` is offset 4 of a group target. -/
def stepBody (id : Half) (target : StepTarget) (reserved : Byte) (stream : Bool) (deadline : Half)
    (limitGroup : Byte) (stat : Half) (tag : Byte) (command : List Byte) : List Byte :=
  le16 id
    ++ (match target with
      | .lanes set => 0x00#8 :: le16 set
      | .group n => [0x01#8, byteOf n, reserved])
    ++ levelByte stream :: le16 deadline ++ limitGroup :: le16 stat
    ++ tag :: byteOf command.length :: command

/-- The member set a target resolves to (R53): group 0 is all sixteen lanes. -/
def Machine.State.membersOf (s : State) : StepTarget → LaneSet
  | .lanes set => set
  | .group 0 => 0xFFFF#16
  | .group (n + 1) => if h : n < 31 then s.groups[n] else 0xFFFF#16

/-- The outcome a member lane gets at the take (R56 step 4). -/
def outcomeAtTake (l : Lane) : MemberOutcome :=
  if l.state ≠ .bound then .skipped
  else if l.outstanding.length = 4 ∨ l.txQueue.length = 8 then .overrun
  else .pending

/-- The members of a set with an outcome at the take, as a lane set. -/
def Machine.State.takenAs (s : State) (members : LaneSet) (o : MemberOutcome) : LaneSet :=
  laneSetOf fun i => inSet members i && outcomeAtTake (s.lane i) == o

/-- The record a STEP opens (R56): its fields, and a fresh entry for every member. -/
def Machine.State.openedRecord (s : State) (members : LaneSet) (id : Half) (stream : Bool) (deadline : Half)
    (limitGroup : Byte) (stat : Half) (tag : Byte) (command : List Byte) : StepRecord :=
  { state := .opened, stepId := some id, stream := stream, deadline := some (max 1 deadline.toNat),
    limitGroup := limitGroup, statEntry := if h : stat.toNat < 256 then some ⟨stat.toNat, h⟩ else none,
    tag := tag, command := command, cause := none,
    members := Vector.ofFn fun i =>
      if inSet members i then
        some { outcome := outcomeAtTake (s.lane i), verdict := .none, count := 0, stat := none }
      else none }

/-- A transmit queue without the DO frames of a step (R65). -/
def withoutStep (id : Half) (q : List QueuedFrame) : List QueuedFrame :=
  q.filter fun f =>
    match f with
    | .doStep id' _ _ => id' != id
    | .passOn _ => true

/-- What the SUMMARY of a closed record carries (R88, R89): a member entry for each member in lane order, and the
statistics over the members that hold a statistic value, whatever their outcome. -/
def summaryOf (n : StepRecord) : SummaryBody :=
  { stepId := n.stepId.getD 0#16, cause := n.cause.getD .complete, tag := n.tag
    members := (List.finRange 16).filterMap fun i => n.members[i].map fun m => (i, m)
    stats := statistics ((List.finRange 16).filterMap fun i => n.members[i].bind fun m => m.stat) }

/-- Records that closed one after another: their summaries enter bulk egress while the closing list is empty and there
is room, each record FREE at once; the others join the closing list in order (R67, R83, R90). -/
def ClosedInto (s t : State) (closed : List RecordId) : Prop :=
  let room := if s.closing = [] then 64 - s.bulk.length else 0
  t.bulk = s.bulk ++ (closed.take room).map (fun r => .summary (summaryOf (t.record r)))
    ∧ t.freeOrder = s.freeOrder ++ closed.take room
    ∧ t.closing = s.closing ++ closed.drop room
    ∧ (∀ r ∈ closed.take room, (t.record r).state = .free)
    ∧ ∀ r ∈ closed.drop room, (t.record r).state = .closing

/-- An OPEN step with an ID ended by expiry or abort (R63 to R65, R67): every owing member takes the outcome and its
entry goes, every unsent DO frame of the step goes, and the step closes with the cause. -/
def StepEnded (s t : State) (r : RecordId) (id : Half) (o : MemberOutcome) (cause : CloseCause) : Prop :=
  (∀ r', r' ≠ r → t.record r' = s.record r')
    ∧ t.record r =
      { s.record r with
        state := (t.record r).state, deadline := none, cause := some cause
        members := Vector.ofFn fun i => (s.record r).members[i].map fun m =>
          if m.outcome = .pending ∨ m.outcome = .partialAnswer then { m with outcome := o } else m }
    ∧ ClosedInto s t [r]
    ∧ ∀ i : LaneId, t.lane i =
      { s.lane i with
        outstanding :=
          if (s.record r).owes i then (s.lane i).outstanding.filter fun e => e.record ≠ r
          else (s.lane i).outstanding
        txQueue :=
          if (s.record r).members[i].isSome then withoutStep id (s.lane i).txQueue
          else (s.lane i).txQueue }

/-- The worse of two verdicts (R1). -/
def worseOf : Verdict → Verdict → Verdict
  | .fail, _ | _, .fail => .fail
  | .marginal, _ | _, .marginal => .marginal
  | .pass, _ | _, .pass => .pass
  | .none, .none => .none

/-- A counter one further where a condition holds, stopping at its maximum (R2). -/
def countedIf (c : Bool) (most n : Nat) : Nat := if c ∧ n < most then n + 1 else n

/-! ### Terms of the statements: lanes -/

/-- A lane as seating makes it (R28, R31, R133). -/
def seatedLane (l : Lane) : Lane :=
  { l with
    state := .seated, mode := .app, txSeq := 0#8, lastTaken := none, hunt := .hunt, gapTimer := none
    inFlight := none, control := none, txQueue := [], rxBuffer := [], marks := [], txBusy := false
    announce := .running (l.settings.announceLimit * 1000)
    power := l.power || l.settings.autoPower }

/-- A lane that hunts afresh, a partial frame discarded (R4). -/
def huntingAfresh (l : Lane) : Lane := { l with hunt := .hunt, gapTimer := none }

/-- A lane with one error flag set (R26). -/
def flagged (l : Lane) (f : LaneFlag) : Lane := { l with flags := withFlag l.flags f }

/-- A lane with a MARK placed at the tail of its backlog (R17). -/
def owing (l : Lane) (seq : Byte) (code : MarkCode) : Lane := { l with marks := l.marks ++ [⟨seq, code⟩] }

/-- The structure check of R15 on a frame other than a MARK in APP mode. -/
def Malformed (kind : Byte) (payload : List Byte) : Prop :=
  (kind ≠ 0x10#8 ∧ kind ≠ 0x11#8 ∧ kind ≠ 0x12#8 ∧ kind ≠ 0x13#8 ∧ kind ≠ 0x14#8)
    ∨ (kind = 0x11#8 ∧ (payload.length < 5 ∨ 8 < (byteAt payload 4).toNat
        ∨ payload.length < 5 + 5 * (byteAt payload 4).toNat ∨ 1 < (byteAt payload 3).toNat))
    ∨ ((kind = 0x13#8 ∨ kind = 0x14#8) ∧ (payload.length ≠ 1 ∨ (byteAt payload 0).toNat < 1
        ∨ 4 < (byteAt payload 0).toNat))

/-- The structure check of R15 on a MARK, in either mode. -/
def MarkMalformed (payload : List Byte) : Prop := payload.length ≠ 2 ∨ 2 < (byteAt payload 1).toNat

/-- A lane `l'` after a valid frame that `l` handles right after a mode switch, with no sequence taken before and
nothing in flight (R8, R15 to R17, R20). -/
def HandledAfresh (l l' : Lane) (f : RawFrame) : Prop :=
  (f.kind = 0x20#8 → (MarkMalformed f.payload → l' = flagged l .noise) ∧ (¬MarkMalformed f.payload → l' = l))
    ∧ (f.kind ≠ 0x20#8 →
      (4 ≤ l.marks.length → l' = l)
        ∧ (l.marks.length < 4 → 2 ≤ l.rxBuffer.length → l' = owing l f.seq .again)
        ∧ (l.marks.length < 4 → l.rxBuffer.length < 2 → (l.mode = .app ∧ Malformed f.kind f.payload) →
          l' = flagged { owing l f.seq .taken with lastTaken := some f.seq } .noise)
        ∧ (l.marks.length < 4 → l.rxBuffer.length < 2 → ¬(l.mode = .app ∧ Malformed f.kind f.payload) →
          l' =
            { owing l f.seq .taken with
              lastTaken := some f.seq
              rxBuffer := l.rxBuffer ++ [⟨f.framing, f.kind, f.seq, f.payload⟩] }))

/-- The first lane of a set in rotation after a lane, which comes last itself (R146). -/
def firstAfter (last : LaneId) (set : LaneSet) : Option LaneId :=
  ((List.finRange 16).map fun d => last + 1 + d).find? fun i => inSet set i

/-- The steps a lane loss closes, in the order of the lane's entries: those no other member of which owes (R83). -/
def lossCloses (s : State) (i : LaneId) : List RecordId :=
  ((s.lane i).outstanding.filter fun e =>
    (List.finRange 16).all fun j => j == i || !(s.record e.record).owes j).map OutEntry.record

/-- The next holder of an instrument whose holder leaves (R146). -/
def nextOf (n : Instrument) : Option LaneId := firstAfter n.lastGranted n.waiting

/-- An instrument record after a grant to a lane (R145). -/
def grantedTo (n : Instrument) (j : LaneId) : Instrument :=
  { n with
    holder := some j, lastGranted := j, waiting := removeLane n.waiting j, revoked := removeLane n.revoked j
    holdTimer := if n.holdLimit = 0 then none else some n.holdLimit }

/-- An instrument record after the loss of a lane (R146, R150). -/
def afterLoss (n : Instrument) (i : LaneId) : Instrument :=
  if n.holder = some i then
    match nextOf n with
    | none => { n with holder := none, holdTimer := none, revoked := removeLane n.revoked i }
    | some j => { grantedTo n j with revoked := removeLane (grantedTo n j).revoked i }
  else { n with waiting := removeLane n.waiting i, revoked := removeLane n.revoked i }

/-- The reports the loss of a lane makes, instruments 1 to 4 in order: DROPPED, and GRANTED where a lane waits (R150,
R155). -/
def lossReports (s : State) (i : LaneId) : List UrgentReport :=
  (List.finRange 4).flatMap fun k =>
    let n := s.instrument k
    if n.holder = some i then
      .instrument k .dropped i 0 n.waiting ::
        (nextOf n).toList.map fun j => .instrument k .granted j n.holdLimit (removeLane n.waiting j)
    else []

/-- The INSTRUMENT events of those reports (R155). -/
def lossEvents (s : State) (i : LaneId) : List (LaneId × EventKind) :=
  (List.finRange 4).flatMap fun k =>
    if (s.instrument k).holder = some i then
      (i, .instrument) :: (nextOf (s.instrument k)).toList.map fun j => (j, .instrument)
    else []

/-- The control slot of another lane after the loss of a lane: the GRANT of the last instrument it was granted then
(R24, R145). -/
def controlAfterLoss (s : State) (i j : LaneId) : Option ControlFrame :=
  (((List.finRange 4).filter fun k =>
      (s.instrument k).holder = some i ∧ nextOf (s.instrument k) = some j).getLast?.map fun k =>
    { kind := .grant, instrument := k }).or (s.lane j).control

/-- A lane loses its outstanding entries and everything it had at the arbiter (R82, R83, R150), its reports behind
those of `first` and its events with those of `events`, and nothing else of the part changes. What becomes of the
lane's own engine and roster items is said beside it. -/
def LaneLoss (s t : State) (i : LaneId) (o : MemberOutcome) (first : List UrgentReport)
    (events : List (LaneId × EventKind)) : Prop :=
  (t.lane i).outstanding = []
    ∧ (∀ r : RecordId, t.record r =
        if r ∈ (s.lane i).outstanding.map OutEntry.record then
          { s.record r with
            members := Vector.ofFn fun j =>
              if j = i then (s.record r).members[j].map fun m => { m with outcome := o }
              else (s.record r).members[j]
            state := if r ∈ lossCloses s i then (t.record r).state else (s.record r).state
            deadline := if r ∈ lossCloses s i then none else (s.record r).deadline
            cause := if r ∈ lossCloses s i then some .complete else (s.record r).cause }
        else s.record r)
    ∧ ClosedInto s t (lossCloses s i)
    ∧ (∀ k : InstrumentId, t.instrument k = afterLoss (s.instrument k) i)
    ∧ (∀ j : LaneId, j ≠ i → t.lane j = { s.lane j with control := controlAfterLoss s i j })
    ∧ UrgentOffered s t (first ++ lossReports s i)
    ∧ EventsRecorded s t (lossEvents s i ++ events)
    ∧ t =
      { s with
        lanes := t.lanes, records := t.records, freeOrder := t.freeOrder, closing := t.closing,
        bulk := t.bulk, instruments := t.instruments, urgent := t.urgent, urgentDrops := t.urgentDrops,
        holding := t.holding, beaconDue := t.beaconDue, intervalTimer := t.intervalTimer,
        earlyRequest := t.earlyRequest }

/-- What a departure leaves of the lane's own items, but for the lane state (R28, R43). -/
def departedLane (l : Lane) : Lane :=
  { l with
    mode := .app, txSeq := 0#8, lastTaken := none, hunt := .hunt, gapTimer := none, inFlight := none
    control := none, txQueue := [], rxBuffer := [], marks := [], outstanding := [], identity := none
    bindCount := 0, resume := none, announce := .stopped, keyPulse := none
    board :=
      { verdict := .none, passCount := 0, marginalCount := 0, failCount := 0, firstFailure := none,
        latch := false } }

/-! ### Terms of the statements: wires and tables -/

/-- An uplink frame from destination address through FCS (R158). -/
def ethernetFrame (destination source : List Byte) (type : Half) (data : List Byte) : List Byte :=
  let covered := destination ++ source ++ be16 type ++ data
  covered ++ le32 (fcs covered)

/-- The bytes of a LANE-SET body from offset 1 (R202). -/
structure LaneSetBytes where
  enable : Byte
  rate   : Byte
  window : Half
  pause  : Half
  retry  : Byte
  gap    : Half
  seat   : Half
  ann    : Half
  auto   : Byte
  reject : Byte

/-- A LANE-SET body (R202). -/
def LaneSetBytes.body (a : LaneSetBytes) (i : LaneId) : List Byte :=
  laneByte i :: a.enable :: a.rate :: le16 a.window ++ le16 a.pause ++ a.retry :: le16 a.gap
    ++ le16 a.seat ++ le16 a.ann ++ [a.auto, a.reject]

/-- A LANE-SET that leaves every setting (R202). -/
def LaneSetBytes.leave : LaneSetBytes :=
  { enable := 0xFF#8, rate := 0xFF#8, window := 0xFFFF#16, pause := 0xFFFF#16, retry := 0xFF#8,
    gap := 0xFFFF#16, seat := 0xFFFF#16, ann := 0xFFFF#16, auto := 0xFF#8, reject := 0xFF#8 }

/-- A two-byte timing field over its old value: FFFFh leaves it, any other value is clamped (R174, R202). -/
def timing (lo hi : Nat) (w : Half) (old : Nat) : Nat :=
  if w = 0xFFFF#16 then old else min hi (max lo w.toNat)

/-- An on or off field over its old value: FFh leaves it (R202). -/
def onOff (b : Byte) (old : Bool) : Bool := if b = 0xFF#8 then old else b == 0x01#8

/-- A rate field over its old value (R202). -/
def rateOver (b : Byte) (old : Rate) : Rate :=
  if b = 0x00#8 then .baud115200 else if b = 0x01#8 then .baud921600
  else if b = 0x02#8 then .baud3000000 else old

/-- The settings after a LANE-SET's fields are stored over the old ones, lane enable aside (R180). -/
def LaneSetBytes.over (a : LaneSetBytes) (t : LaneSettings) : LaneSettings :=
  { enabled := t.enabled
    rate := rateOver a.rate t.rate
    markWindow := timing 1 255 a.window t.markWindow
    retryPause := timing 1 255 a.pause t.retryPause
    retryLimit := if a.retry = 0xFF#8 then t.retryLimit else min 15 a.retry.toNat
    gapLimit := timing 1 50 a.gap t.gapLimit
    debounceTime := timing 1 1000 a.seat t.debounceTime
    announceLimit := timing 1 255 a.ann t.announceLimit
    autoPower := onOff a.auto t.autoPower
    rejectEnable := onOff a.reject t.rejectEnable }

/-- The checks of R97 and R201 on one LIMIT image of 22 bytes. -/
def LimitImageOk (b : List Byte) : Prop :=
  byteAt b 0 = 0x00#8 ∨
    (byteAt b 0 = 0x01#8 ∧ 1 ≤ (byteAt b 1).toNat ∧ (byteAt b 1).toNat ≤ 63 ∧ (byteAt b 3).toNat ≤ 7
      ∧ (byteAt b 4).toNat ≤ 3 ∧ (byteAt b 5).toNat ≤ 1 ∧ -12 ≤ (byteAt b 6).toInt
      ∧ (byteAt b 6).toInt ≤ 12 ∧ (quadAt b 16).toNat ≤ 2147483647
      ∧ ((byteAt b 4).toNat ≤ 1 →
          (quadAt b 8).toInt ≤ (quadAt b 12).toInt
            ∧ 2 * ((quadAt b 16).toNat : Int) ≤ (quadAt b 12).toInt - (quadAt b 8).toInt))

/-- Verdict codes (R196). -/
def verdictByte : Verdict → Byte
  | .none => 0x00#8 | .pass => 0x01#8 | .marginal => 0x02#8 | .fail => 0x03#8

/-- Outcome codes (R196). -/
def outcomeByte : MemberOutcome → Byte
  | .pending => 0x00#8 | .partialAnswer => 0x01#8 | .answered => 0x02#8 | .skipped => 0x03#8
  | .overrun => 0x04#8 | .undelivered => 0x05#8 | .lost => 0x06#8 | .gone => 0x07#8 | .expired => 0x08#8
  | .aborted => 0x09#8

/-- The 31 bytes of a lane's ROSTER image (R183, R203). -/
def RosterImage (l : Lane) (b : List Byte) : Prop :=
  b.length = 31
    ∧ byteAt b 0 = (match l.state with
      | .off => 0x00#8 | .empty => 0x01#8 | .seated => 0x02#8 | .bound => 0x03#8 | .held => 0x04#8
      | .stalled => 0x05#8)
    ∧ byteAt b 1 = (match l.mode with | .app => 0x00#8 | .loader => 0x01#8)
    ∧ byteAt b 2 = BitVec.ofNat 8 l.bindCount
    ∧ byteAt b 3 = (match l.resume with
      | some .seated => 0x02#8 | some .bound => 0x03#8 | some .held => 0x04#8 | none => 0xFF#8)
    ∧ byteAt b 4 = (match l.announce with | .stopped => 0x00#8 | .running _ => 0x01#8 | .expired => 0x02#8)
    ∧ byteAt b 5 = (match l.announce with
      | .running left => BitVec.ofNat 8 (left / 1000) | .stopped | .expired => 0x00#8)
    ∧ byteAt b 6 = BitVec.ofNat 8 (l.identity.getD []).length
    ∧ ∀ k : Fin 24, byteAt b (7 + k.val) = byteAt (l.identity.getD []) k.val

/-- The 14 bytes of a verdict record, at the head of a run of bytes (R203). -/
def VerdictImage (v : VerdictRecord) (b : List Byte) : Prop :=
  byteAt b 0 = verdictByte v.verdict ∧ byteAt b 1 = levelByte v.latch
    ∧ halfAt b 2 = BitVec.ofNat 16 v.passCount ∧ halfAt b 4 = BitVec.ofNat 16 v.marginalCount
    ∧ halfAt b 6 = BitVec.ofNat 16 v.failCount
    ∧ match v.firstFailure with
      | none => byteAt b 8 = 0x00#8 ∧ halfAt b 9 = 0#16 ∧ byteAt b 11 = 0x00#8 ∧ byteAt b 12 = 0x00#8
        ∧ byteAt b 13 = 0x00#8
      | some (.judged stepId tag reason index) =>
        byteAt b 8 = 0x01#8 ∧ halfAt b 9 = stepId ∧ byteAt b 11 = tag
          ∧ byteAt b 12 = (match reason with
            | .missingField => 0x01#8 | .badField => 0x02#8 | .clamped => 0x03#8 | .digest => 0x04#8
            | .entry => 0x05#8)
          ∧ byteAt b 13 = BitVec.ofNat 8 index.val
      | some .duplicateIdentity =>
        byteAt b 8 = 0x02#8 ∧ halfAt b 9 = 0#16 ∧ byteAt b 11 = 0x00#8 ∧ byteAt b 12 = 0x06#8
          ∧ byteAt b 13 = 0x00#8

/-- The 23 bytes of a lane's BOARD image (R138, R203). -/
def BoardImage (l : Lane) (b : List Byte) : Prop :=
  b.length = 23 ∧ VerdictImage l.board b
    ∧ byteAt b 14 = levelByte l.power ∧ byteAt b 15 = levelByte l.keyPulse.isSome
    ∧ halfAt b 16 = BitVec.ofNat 16 (l.keyPulse.getD 0)
    ∧ byteAt b 18 = levelByte (l.board.latch || (l.board.verdict == .fail && l.settings.rejectEnable))
    ∧ byteAt b 19 = levelByte l.rawSeat ∧ byteAt b 20 = levelByte l.seat
    ∧ byteAt b 21 = levelByte l.settings.rejectEnable ∧ byteAt b 22 = levelByte l.settings.autoPower

/-- The bytes of a SUMMARY body (R88, R89, R203). -/
def SummaryImage (n : SummaryBody) (b : List Byte) : Prop :=
  b.length = 18 + 4 * n.members.length
    ∧ halfAt b 0 = n.stepId
    ∧ byteAt b 2 = (match n.cause with | .complete => 0x00#8 | .deadline => 0x01#8 | .aborted => 0x02#8)
    ∧ byteAt b 3 = n.tag ∧ byteAt b 4 = BitVec.ofNat 8 n.members.length
    ∧ (match n.stats with
      | none => byteAt b 5 = 0x00#8 ∧ quadAt b 6 = 0#32 ∧ quadAt b 10 = 0#32 ∧ quadAt b 14 = 0#32
      | some v => byteAt b 5 = BitVec.ofNat 8 v.count ∧ quadAt b 6 = BitVec.ofInt 32 v.minimum
        ∧ quadAt b 10 = BitVec.ofInt 32 v.maximum ∧ quadAt b 14 = BitVec.ofInt 32 v.mean)
    ∧ ∀ (k : Nat) (i : LaneId) (m : Member), n.members[k]? = some (i, m) →
      byteAt b (18 + 4 * k) = BitVec.ofNat 8 (i.val + 1) ∧ byteAt b (19 + 4 * k) = outcomeByte m.outcome
        ∧ byteAt b (20 + 4 * k) = verdictByte m.verdict ∧ byteAt b (21 + 4 * k) = BitVec.ofNat 8 m.count

/-- Image `k` of a run of images of one size. -/
def imageAt (size k : Nat) (images : List Byte) : List Byte := (images.drop (size * k)).take size

end Sys2Proof
end

