-- ==== Sys2Proof/Certificates/Slice0/Obligations.lean ====
section
/-! DEFINITION. The statements for the provers, in the order of OBLIGATIONS.json. -/

open Sys2Proof Sys2Proof.Machine

/-! ### The machine -/

/-- A step takes the command at the front of the queue and answers what `exec` answers with the queue's rest. The
queue of commands is the model's own (assumption 15): the spec gives the part events, and says of no queue of them. -/
def Obligations.StepRunsFrontCommand : Prop :=
  ∀ (c : Instr) (s : State), step { s with pending := c :: s.pending } = exec c s

/-- The model's choice (assumption 3): with no command waiting, a step is one millisecond in which every running
timer's count falls by one, standing at 0, and nothing else changes. The bulk hold counts bit times. -/
def Obligations.IdleStepPassesOneMillisecond : Prop :=
  ∀ s : State, s.pending = [] → ∃ t, step s = .next t
    ∧ t =
      { s with
        lanes := t.lanes, records := t.records, instruments := t.instruments
        bulkHold := s.bulkHold.map (· - 100000)
        intervalTimer := s.intervalTimer.map (· - 1)
        spacingTimer := s.spacingTimer.map (· - 1) }
    ∧ (∀ i : LaneId, t.lane i =
        { s.lane i with
          inFlight := (s.lane i).inFlight.map fun f =>
            { f with
              phase :=
                match f.phase with
                | .awaiting n => .awaiting (n - 1)
                | .paused n => .paused (n - 1)
                | .sending => .sending
                | .due => .due }
          gapTimer := (s.lane i).gapTimer.map (· - 1)
          debounce := (s.lane i).debounce.map (· - 1)
          announce :=
            match (s.lane i).announce with
            | .running n => .running (n - 1)
            | .stopped => .stopped
            | .expired => .expired
          keyPulse := (s.lane i).keyPulse.map (· - 1) })
    ∧ (∀ r : RecordId, t.record r = { s.record r with deadline := (s.record r).deadline.map (· - 1) })
    ∧ ∀ k : InstrumentId, t.instrument k =
        { s.instrument k with holdTimer := (s.instrument k).holdTimer.map (· - 1) }

/-- Every command of the table answers a next state in every state, and none touches the queue of commands that wait.
That a command whose event cannot occur then answers with the state unchanged, and the queue itself, are the model's
choices (assumptions 2, 15). -/
def Obligations.EveryCommandAnswersAndKeepsTheQueue : Prop :=
  ∀ (c : Instr) (s : State), ∃ t, exec c s = .next t ∧ t.pending = s.pending

/-! ### Reset -/

/-- Power-on and a RESET order that takes effect leave the part in one state, block by block. They differ in what
stands outside the part: the PHY link and a report frame already on the wire. A RESET with a body is refused with
BAD_ORDER and resets nothing (R177). The raw level that a RESET samples and the free transmitter are the model's
reading (assumptions 6, 14). -/
def Obligations.PowerOnAndResetLeaveOneState : Prop :=
  (∀ (straps : BitVec 4) (seats : LaneSet) (s : State), ∃ t, exec (.powerOn straps seats) s = .next t
      ∧ ResetValues straps (fun i => inSet seats i) t ∧ t.linkUp = false)
    ∧ ∀ (straps : BitVec 4) (s : State) (o : Order) (rest : List Order), OrderReady s o rest →
        o.kind = 0x10#8 →
        (o.body = [] → ∃ t, exec (.reset straps) s = .next t
            ∧ ResetValues straps (fun i => (s.lane i).rawSeat) t
            ∧ t.linkUp = s.linkUp ∧ t.uplinkLine = s.uplinkLine)
          ∧ (o.body ≠ [] → exec (.reset straps) s = .next (s.answered o rest (.refused .badOrder)))

/-- The state after reset keeps every law. -/
def Obligations.ResetStateIsLawful : Prop := Lawful State.reset

/-! ### Orders: taking, checking, answering -/

/-- A refused order changes no state in any block: with its ANSWER in the queue, everything else is as it was. -/
def Obligations.RefusedOrderChangesNothing : Prop :=
  ∀ (c : Instr) (s t : State) (o : Order) (rest : List Order) (code : RefusalCode),
    orderCommand c = true → s.ingress = o :: rest → exec c s = .next t →
    t.urgent = s.urgent ++ [.answer o.number o.kind (.refused code)] →
    t = { s with ingress := rest, urgent := t.urgent, answerReserved := false }

/-- Every order that is taken is answered by exactly one ANSWER, behind the reports its action made, except a RESET
that takes effect; an order that is not taken changes nothing. That a command for which no order waits changes nothing
is the model's choice (assumption 2). -/
def Obligations.EveryTakenOrderIsAnsweredOnce : Prop :=
  ∀ (c : Instr) (s t : State), orderCommand c = true → exec c s = .next t →
    t = s
      ∨ (∃ o rest b, s.ingress = o :: rest ∧ t.ingress = rest ∧ t.currentOrder = none
          ∧ t.answerReserved = false
          ∧ t.urgent.filter isAnswer = s.urgent.filter isAnswer ++ [.answer o.number o.kind b]
          ∧ t.urgent.getLast? = some (.answer o.number o.kind b))
      ∨ ∃ straps o rest, c = .reset straps ∧ s.ingress = o :: rest ∧ o.kind = 0x10#8 ∧ o.body = []
          ∧ t.urgent = []

/-- The first check of every order: a kind that is none of the sixteen, or a body shorter than declared, is refused
with BAD_ORDER whatever else the order holds. -/
def Obligations.UnknownOrTruncatedOrderIsBadOrder : Prop :=
  ∀ (straps : BitVec 4) (s : State) (o : Order) (rest : List Order),
    s.ingress = o :: rest → s.currentOrder = none → s.answerReserved = false → s.urgent.length < 32 →
    (o.kind.toNat < 1 ∨ 16 < o.kind.toNat ∨ o.body.length < o.declared) →
    exec (commandFor straps o) s = .next (s.answered o rest (.refused .badOrder))

/-! ### Orders: steps -/

/-- A STEP with at least one PENDING member is taken into the record at the head of the free order: every member gets
its outcome, every PENDING member an outstanding entry and a DO frame, and nothing else changes. -/
def Obligations.StepGivesEachMemberItsOutcome : Prop :=
  ∀ (s : State) (o : Order) (rest : List Order) (r : RecordId) (free : List RecordId) (id : Half)
    (target : StepTarget) (reserved : Byte) (stream : Bool) (deadline : Half) (limitGroup : Byte)
    (stat : Half) (tag : Byte) (command : List Byte),
    OrderReady s o rest → o.kind = 0x01#8 →
    o.body = stepBody id target reserved stream deadline limitGroup stat tag command →
    s.startup = false → id ≠ 0#16 → limitGroup.toNat ≤ 63 → command.length ≤ 200 →
    (match target with | .lanes _ => True | .group n => n ≤ 31) → Lawful s →
    (∀ r', (s.record r').state ≠ .free → (s.record r').stepId ≠ some id) → s.freeOrder = r :: free →
    s.takenAs (s.membersOf target) .pending ≠ 0#16 →
    ∃ t, exec .step s = .next t
      ∧ t =
        { s.answered o rest
            (.okStep (max 1 deadline.toNat) (s.membersOf target) (s.takenAs (s.membersOf target) .pending)
              (s.takenAs (s.membersOf target) .skipped) (s.takenAs (s.membersOf target) .overrun)) with
          lanes := t.lanes, records := t.records, freeOrder := free }
      ∧ t.record r = s.openedRecord (s.membersOf target) id stream deadline limitGroup stat tag command
      ∧ (∀ r', r' ≠ r → t.record r' =
          if (s.record r').state = .free ∧ (s.record r').stepId = some id then
            { s.record r' with stepId := none }
          else s.record r')
      ∧ ∀ i : LaneId, t.lane i =
          if inSet (s.membersOf target) i = true ∧ outcomeAtTake (s.lane i) = .pending then
            { s.lane i with
              outstanding := (s.lane i).outstanding ++ [{ stepId := id, record := r }]
              txQueue := (s.lane i).txQueue ++ [.doStep id tag command] }
          else s.lane i

/-- A STEP with no PENDING member is answered OK and closes at once with cause COMPLETE: no lane changes, and the
record joins the closing list or its summary enters bulk egress. -/
def Obligations.StepWithNothingPendingClosesAtOnce : Prop :=
  ∀ (s : State) (o : Order) (rest : List Order) (r : RecordId) (free : List RecordId) (id : Half)
    (target : StepTarget) (reserved : Byte) (stream : Bool) (deadline : Half) (limitGroup : Byte)
    (stat : Half) (tag : Byte) (command : List Byte),
    OrderReady s o rest → o.kind = 0x01#8 →
    o.body = stepBody id target reserved stream deadline limitGroup stat tag command →
    s.startup = false → id ≠ 0#16 → limitGroup.toNat ≤ 63 → command.length ≤ 200 →
    (match target with | .lanes _ => True | .group n => n ≤ 31) → Lawful s →
    (∀ r', (s.record r').state ≠ .free → (s.record r').stepId ≠ some id) → s.freeOrder = r :: free →
    s.takenAs (s.membersOf target) .pending = 0#16 →
    ∃ t, exec .step s = .next t
      ∧ t =
        { s.answered o rest
            (.okStep (max 1 deadline.toNat) (s.membersOf target) 0#16
              (s.takenAs (s.membersOf target) .skipped) (s.takenAs (s.membersOf target) .overrun)) with
          records := t.records, freeOrder := t.freeOrder, closing := t.closing, bulk := t.bulk }
      ∧ t.record r =
        { s.openedRecord (s.membersOf target) id stream deadline limitGroup stat tag command with
          state := (t.record r).state, deadline := none, cause := some .complete }
      ∧ (∀ r', r' ≠ r → t.record r' =
          if (s.record r').state = .free ∧ (s.record r').stepId = some id then
            { s.record r' with stepId := none }
          else s.record r')
      ∧ ClosedInto { s with freeOrder := free } t [r]

/-- The checks of a STEP order, in their order, each with its refusal, the part otherwise unchanged. -/
def Obligations.StepRefusalsFollowTheirOrder : Prop :=
  ∀ (s : State) (o : Order) (rest : List Order), OrderReady s o rest → o.kind = 0x01#8 →
    (s.startup = true → exec .step s = .next (s.answered o rest (.refused .notStarted)))
      ∧ (s.startup = false → o.body.length ≠ 13 + (byteAt o.body 12).toNat →
          exec .step s = .next (s.answered o rest (.refused .badOrder)))
      ∧ (s.startup = false → o.body.length = 13 + (byteAt o.body 12).toNat →
          (halfAt o.body 0 = 0#16 ∨ 1 < (byteAt o.body 2).toNat ∨ 63 < (byteAt o.body 8).toNat
            ∨ (byteAt o.body 2 = 0x01#8 ∧ 31 < (byteAt o.body 3).toNat) ∨ 1 < (byteAt o.body 5).toNat
            ∨ 200 < (byteAt o.body 12).toNat) →
          exec .step s = .next (s.answered o rest (.refused .badValue)))
      ∧ ∀ (id : Half) (target : StepTarget) (reserved : Byte) (stream : Bool) (deadline : Half)
          (limitGroup : Byte) (stat : Half) (tag : Byte) (command : List Byte),
          o.body = stepBody id target reserved stream deadline limitGroup stat tag command →
          s.startup = false → id ≠ 0#16 → limitGroup.toNat ≤ 63 → command.length ≤ 200 →
          (match target with | .lanes _ => True | .group n => n ≤ 31) →
          ((∃ r, (s.record r).state ≠ .free ∧ (s.record r).stepId = some id) →
              exec .step s = .next (s.answered o rest (.refused .duplicateStep)))
            ∧ ((∀ r, (s.record r).state ≠ .free → (s.record r).stepId ≠ some id) → s.freeOrder = [] →
              exec .step s = .next (s.answered o rest (.refused .tableFull)))

/-- R64. An ABORT of an OPEN step makes its owing members ABORTED, removes their entries and the step's unsent DO
frames, and closes the step with cause ABORTED; a body of the wrong length, a step ID of 0 and an ID of no OPEN step
are refused. -/
def Obligations.AbortEndsOpenStep : Prop :=
  ∀ (s : State) (o : Order) (rest : List Order), OrderReady s o rest → o.kind = 0x02#8 →
    (o.body.length ≠ 2 → exec .abort s = .next (s.answered o rest (.refused .badOrder)))
      ∧ ∀ id : Half, o.body = le16 id →
        (id = 0#16 → exec .abort s = .next (s.answered o rest (.refused .badValue)))
          ∧ (id ≠ 0#16 → (∀ r, (s.record r).state = .opened → (s.record r).stepId ≠ some id) →
            exec .abort s = .next (s.answered o rest (.refused .unknownStep)))
          ∧ ∀ r : RecordId, id ≠ 0#16 → (s.record r).state = .opened → (s.record r).stepId = some id →
            (∀ r', (s.record r').state = .opened → (s.record r').stepId = some id → r' = r) →
            ∃ t, exec .abort s = .next t
              ∧ t =
                { s.answered o rest (.okAbort (s.record r).owing.length) with
                  lanes := t.lanes, records := t.records, freeOrder := t.freeOrder, closing := t.closing
                  bulk := t.bulk }
              ∧ StepEnded s t r id .aborted .aborted

/-- When the deadline timer of an OPEN record runs out, its owing members become EXPIRED, their entries and the step's
unsent DO frames go, and the step closes with cause DEADLINE (R63). It runs out at its expiry command with the count
at 0 (the model's choice, assumption 4). -/
def Obligations.DeadlineExpiryEndsOpenStep : Prop :=
  ∀ (s : State) (r : RecordId) (id : Half), (s.record r).state = .opened → (s.record r).stepId = some id →
    (s.record r).deadline = some 0 →
    ∃ t, exec (.deadlineExpiry r) s = .next t
      ∧ t =
        { s with
          lanes := t.lanes, records := t.records, freeOrder := t.freeOrder, closing := t.closing
          bulk := t.bulk }
      ∧ StepEnded s t r id .expired .deadline

/-- An EXTEND of an OPEN step reloads its deadline with the new count, 0 clamped to 1, and changes nothing else (R62),
and the expiry of the old count does not happen after it (R66): with time left an expiry changes nothing (the model's
choice, assumptions 2, 4). A body of the wrong length, a step ID of 0 and an ID of no OPEN step are refused. -/
def Obligations.ExtendReloadsDeadline : Prop :=
  ∀ (s : State) (o : Order) (rest : List Order), OrderReady s o rest → o.kind = 0x03#8 →
    (o.body.length ≠ 4 → exec .extend s = .next (s.answered o rest (.refused .badOrder)))
      ∧ ∀ id count : Half, o.body = le16 id ++ le16 count →
        (id = 0#16 → exec .extend s = .next (s.answered o rest (.refused .badValue)))
          ∧ (id ≠ 0#16 → (∀ r, (s.record r).state = .opened → (s.record r).stepId ≠ some id) →
            exec .extend s = .next (s.answered o rest (.refused .unknownStep)))
          ∧ ∀ r : RecordId, id ≠ 0#16 → (s.record r).state = .opened → (s.record r).stepId = some id →
            (∀ r', (s.record r').state = .opened → (s.record r').stepId = some id → r' = r) →
            ∃ t, exec .extend s = .next t
              ∧ t =
                { s.answered o rest (.okExtend (max 1 count.toNat)) with
                  records := s.records.set r { s.record r with deadline := some (max 1 count.toNat) } }
              ∧ exec (.deadlineExpiry r) t = .next t

/-! ### Orders: lanes and lines -/

/-- The checks of a RELAY in their order, and the PASS-ON frame a RELAY that passes appends. -/
def Obligations.RelayAppendsPassOn : Prop :=
  ∀ (s : State) (o : Order) (rest : List Order), OrderReady s o rest → o.kind = 0x04#8 →
    (s.startup = true → exec .relay s = .next (s.answered o rest (.refused .notStarted)))
      ∧ (s.startup = false → o.body.length ≠ 2 + (byteAt o.body 1).toNat →
          exec .relay s = .next (s.answered o rest (.refused .badOrder)))
      ∧ (s.startup = false → o.body.length = 2 + (byteAt o.body 1).toNat →
          ((byteAt o.body 0).toNat < 1 ∨ 16 < (byteAt o.body 0).toNat ∨ 240 < (byteAt o.body 1).toNat) →
          exec .relay s = .next (s.answered o rest (.refused .badValue)))
      ∧ ∀ (i : LaneId) (payload : List Byte), s.startup = false → payload.length ≤ 240 →
          o.body = laneByte i :: byteOf payload.length :: payload →
          ((s.lane i).state ≠ .seated → (s.lane i).state ≠ .bound → (s.lane i).state ≠ .held →
              exec .relay s = .next (s.answered o rest (.refused .laneState)))
            ∧ (((s.lane i).state = .seated ∨ (s.lane i).state = .bound ∨ (s.lane i).state = .held) →
              (8 ≤ (s.lane i).txQueue.length →
                  exec .relay s = .next (s.answered o rest (.refused .queueFull)))
                ∧ ((s.lane i).txQueue.length < 8 →
                  exec .relay s = .next
                    ((s.answered o rest (.okRelay ((s.lane i).txQueue.length + 1))).withLane i
                      { s.lane i with txQueue := (s.lane i).txQueue ++ [.passOn payload] })))

/-- The checks of a LINE order in their order; and a LINE whose POWER action is no restart switches POWER and pulses
KEY as its two actions say, each line on its own, its ANSWER giving the lines as they then stand. After a PULSE the
end of an older pulse does not happen (R135). -/
def Obligations.LineSwitchesPowerAndKey : Prop :=
  ∀ (s : State) (o : Order) (rest : List Order), OrderReady s o rest → o.kind = 0x05#8 →
    (s.startup = true → exec .line s = .next (s.answered o rest (.refused .notStarted)))
      ∧ (s.startup = false → o.body.length ≠ 5 →
          exec .line s = .next (s.answered o rest (.refused .badOrder)))
      ∧ (s.startup = false → o.body.length = 5 →
          ((byteAt o.body 0).toNat < 1 ∨ 16 < (byteAt o.body 0).toNat ∨ 2 < (byteAt o.body 1).toNat
            ∨ 1 < (byteAt o.body 2).toNat) →
          exec .line s = .next (s.answered o rest (.refused .badValue)))
      ∧ ∀ (i : LaneId) (power key : Byte) (duration : Half) (l : Lane), s.startup = false →
          o.body = laneByte i :: power :: key :: le16 duration → power.toNat ≤ 2 → key.toNat ≤ 1 →
          ¬(power = 0x02#8 ∧ (s.lane i).power = true ∧ (s.lane i).state.occupied = true) →
          l = { s.lane i with
                power :=
                  if power = 0x01#8 then true else if power = 0x02#8 then false else (s.lane i).power
                keyPulse :=
                  if key = 0x00#8 then (s.lane i).keyPulse
                  else if duration = 0#16 then none else some duration.toNat } →
          ∃ t, exec .line s = .next t
            ∧ t = (s.answered o rest
                (.okLine l.state l.power l.keyPulse.isSome (l.keyPulse.getD 0)
                  (l.board.latch || (l.board.verdict == .fail && l.settings.rejectEnable))
                  l.seat)).withLane i l
            ∧ (key = 0x01#8 → exec (.keyPulseExpiry i) t = .next t)

/-- POWER switched off under a phone, by a LINE order or by a LANE-SET that clears auto-power, restarts the phone: the
lane is SEATED with its engine emptied but for the receive buffer, a BOUND lane loses its entries as LOST and
everything it had at the arbiter, and its record, identity and bind count are kept. No LOADER event is recorded, and
no event but those of the arbiter's reports. When the transmitter is free is the model's reading (assumption 7), and
which of R194's two orders of beacon and ANSWER happens is free (assumption 22). -/
def Obligations.PowerOffRestartsThePhone : Prop :=
  ∀ (s : State) (o : Order) (rest : List Order) (i : LaneId) (l : Lane) (key : Byte) (duration : Half)
    (a : LaneSetBytes), OrderReady s o rest → Lawful s →
    s.startup = false → (s.lane i).state.occupied = true → (s.lane i).power = true →
    l = { s.lane i with
          state := .seated, mode := .app, txSeq := 0#8, lastTaken := none, inFlight := none, control := none
          txQueue := [], marks := [], hunt := .hunt, gapTimer := none, outstanding := [], power := false
          announce := .running ((s.lane i).settings.announceLimit * 1000)
          resume := if (s.lane i).state = .stalled then none else (s.lane i).resume } →
    (o.kind = 0x05#8 → o.body = laneByte i :: 0x02#8 :: key :: le16 duration → key.toNat ≤ 1 →
        ∃ u t, exec .line s = .next t
          ∧ AnswerFollows s u t o
              (.okLine .seated false (u.lane i).keyPulse.isSome ((u.lane i).keyPulse.getD 0)
                (l.board.latch || (l.board.verdict == .fail && l.settings.rejectEnable)) l.seat)
          ∧ u.lane i =
            { l with
              txBusy := (u.lane i).txBusy
              keyPulse :=
                if key = 0x00#8 then l.keyPulse
                else if duration = 0#16 then none else some duration.toNat }
          ∧ LaneLoss (s.taken o rest) u i .lost [] [])
      ∧ (o.kind = 0x06#8 → o.body = a.body i → a.auto = 0x00#8 → (s.lane i).settings.autoPower = true →
          (a.enable = 0xFF#8 ∨ a.enable = levelByte (s.lane i).settings.enabled) →
          (a.rate = 0xFF#8 ∨ a.rate.toNat ≤ 2) →
          rateOver a.rate (s.lane i).settings.rate = (s.lane i).settings.rate →
          (a.reject = 0xFF#8 ∨ a.reject.toNat ≤ 1) →
          ∃ u t, exec .laneSet s = .next t
            ∧ AnswerFollows s u t o (.okLaneSet (a.over (s.lane i).settings) .seated)
            ∧ u.lane i =
              { l with
                txBusy := (u.lane i).txBusy, settings := a.over (s.lane i).settings
                announce := .running ((a.over (s.lane i).settings).announceLimit * 1000) }
            ∧ LaneLoss (s.taken o rest) u i .lost [] [])

/-- The checks of a LANE-SET in their order: length, values, and a rate change under a phone, which refuses the order
even where it also disables the lane. A LANE-SET that neither enables nor disables the lane, and whose auto-power is
no restart, stores its fields, timing clamped, switches POWER as auto-power says, and changes nothing else. -/
def Obligations.LaneSetStoresSettings : Prop :=
  ∀ (s : State) (o : Order) (rest : List Order), OrderReady s o rest → o.kind = 0x06#8 →
    (o.body.length ≠ 16 → exec .laneSet s = .next (s.answered o rest (.refused .badOrder)))
      ∧ (o.body.length = 16 →
          ((byteAt o.body 0).toNat < 1 ∨ 16 < (byteAt o.body 0).toNat
            ∨ (byteAt o.body 1 ≠ 0xFF#8 ∧ 1 < (byteAt o.body 1).toNat)
            ∨ (byteAt o.body 2 ≠ 0xFF#8 ∧ 2 < (byteAt o.body 2).toNat)
            ∨ (byteAt o.body 14 ≠ 0xFF#8 ∧ 1 < (byteAt o.body 14).toNat)
            ∨ (byteAt o.body 15 ≠ 0xFF#8 ∧ 1 < (byteAt o.body 15).toNat)) →
          exec .laneSet s = .next (s.answered o rest (.refused .badValue)))
      ∧ ∀ (i : LaneId) (a : LaneSetBytes), o.body = a.body i →
          (a.enable = 0xFF#8 ∨ a.enable.toNat ≤ 1) → (a.rate = 0xFF#8 ∨ a.rate.toNat ≤ 2) →
          (a.auto = 0xFF#8 ∨ a.auto.toNat ≤ 1) → (a.reject = 0xFF#8 ∨ a.reject.toNat ≤ 1) →
          (rateOver a.rate (s.lane i).settings.rate ≠ (s.lane i).settings.rate →
              (s.lane i).state.occupied = true →
              exec .laneSet s = .next (s.answered o rest (.refused .laneState)))
            ∧ ((a.enable = 0xFF#8 ∨ a.enable = levelByte (s.lane i).settings.enabled) →
              (rateOver a.rate (s.lane i).settings.rate = (s.lane i).settings.rate
                ∨ (s.lane i).state.occupied = false) →
              ¬(a.auto = 0x00#8 ∧ (s.lane i).settings.autoPower = true ∧ (s.lane i).power = true
                ∧ (s.lane i).state.occupied = true) →
              exec .laneSet s = .next
                ((s.answered o rest (.okLaneSet (a.over (s.lane i).settings) (s.lane i).state)).withLane i
                  { s.lane i with
                    settings := a.over (s.lane i).settings
                    power :=
                      if a.auto = 0x01#8 ∧ (s.lane i).settings.autoPower = false
                          ∧ (s.lane i).state.occupied = true then true
                      else if a.auto = 0x00#8 ∧ (s.lane i).settings.autoPower = true then false
                      else (s.lane i).power }))

/-- A LANE-SET that disables an EMPTY lane makes it OFF without a report; one that enables an OFF lane leaves it OFF
while STARTUP is set, and otherwise makes it EMPTY or, with the seat level on, seats it under the settings the order
has stored and records SEATED. That a seated lane's transmitter is free is the model's reading (assumption 7), and
which of R194's two orders of beacon and ANSWER happens is free (assumption 22). -/
def Obligations.LaneEnableAndDisableEnterAndLeaveOff : Prop :=
  ∀ (s : State) (o : Order) (rest : List Order) (i : LaneId) (a : LaneSetBytes) (l : Lane),
    OrderReady s o rest → o.kind = 0x06#8 → o.body = a.body i → (s.lane i).state.occupied = false →
    (a.rate = 0xFF#8 ∨ a.rate.toNat ≤ 2) → (a.auto = 0xFF#8 ∨ a.auto.toNat ≤ 1) →
    (a.reject = 0xFF#8 ∨ a.reject.toNat ≤ 1) →
    l = { s.lane i with
          settings := { a.over (s.lane i).settings with enabled := a.enable == 0x01#8 }
          power :=
            if a.auto = 0x00#8 ∧ (s.lane i).settings.autoPower = true then false else (s.lane i).power } →
    (a.enable = 0x00#8 → (s.lane i).settings.enabled = true →
        exec .laneSet s = .next
          ((s.answered o rest (.okLaneSet l.settings .off)).withLane i
            { huntingAfresh l with state := .off }))
      ∧ (a.enable = 0x01#8 → (s.lane i).settings.enabled = false → (s.lane i).state = .off →
          (s.startup = true →
              exec .laneSet s = .next ((s.answered o rest (.okLaneSet l.settings .off)).withLane i l))
            ∧ (s.startup = false → l.seat = false →
              exec .laneSet s = .next
                ((s.answered o rest (.okLaneSet l.settings .empty)).withLane i
                  { huntingAfresh l with state := .empty }))
            ∧ (s.startup = false → l.seat = true →
              ∃ u t, exec .laneSet s = .next t
                ∧ AnswerFollows s u t o (.okLaneSet l.settings .seated)
                ∧ u =
                  { (s.taken o rest).withLane i (seatedLane l) with
                    holding := u.holding, beaconDue := u.beaconDue, intervalTimer := u.intervalTimer
                    earlyRequest := u.earlyRequest }
                ∧ EventsRecorded s u [(i, .seated)]))

/-- A departure, by a debounced fall or by lane disable: the DEPARTURE report is built from the lane as it stood and
goes ahead of the arbiter's reports, every entry becomes GONE, the lane engine, the instruments, the roster's items
and the verdict record are torn down, POWER goes off, KEY is released, and DEPARTED is recorded. Settings, flags and
the duplicate counter stay, and the hold timer of an instrument the lane held does not run out after it (R156). The
free transmitter is the model's reading (assumption 7), and which of R194's two orders of beacon and ANSWER happens is
free (assumption 22). -/
def Obligations.DepartureTearsDownTheLane : Prop :=
  ∀ (s : State) (i : LaneId), Lawful s → (s.lane i).state.occupied = true →
    ((s.lane i).debounce = some 0 → (s.lane i).rawSeat = false → (s.lane i).seat = true →
        ∃ t, exec (.debounceExpiry i) s = .next t
          ∧ t.lane i =
            { departedLane (s.lane i) with
              state := .empty, power := false, txBusy := false, debounce := none, seat := false }
          ∧ LaneLoss s t i .gone
              [.departure i .sense (s.lane i).identity (s.lane i).bindCount (s.lane i).board] [(i, .departed)]
          ∧ ∀ k, (s.instrument k).holder = some i → exec (.holdExpiry k) t = .next t)
      ∧ ∀ (o : Order) (rest : List Order) (a : LaneSetBytes), OrderReady s o rest → o.kind = 0x06#8 →
          o.body = a.body i → a.enable = 0x00#8 → (s.lane i).settings.enabled = true →
          (a.rate = 0xFF#8 ∨ a.rate.toNat ≤ 2) →
          rateOver a.rate (s.lane i).settings.rate = (s.lane i).settings.rate →
          (a.auto = 0xFF#8 ∨ a.auto.toNat ≤ 1) → (a.reject = 0xFF#8 ∨ a.reject.toNat ≤ 1) →
          ∃ u t, exec .laneSet s = .next t
            ∧ AnswerFollows s u t o (.okLaneSet (u.lane i).settings .off)
            ∧ u.lane i =
              { departedLane (s.lane i) with
                state := .off, power := false, txBusy := false
                settings := { a.over (s.lane i).settings with enabled := false } }
            ∧ LaneLoss (s.taken o rest) u i .gone
                [.departure i .disabled (s.lane i).identity (s.lane i).bindCount (s.lane i).board]
                [(i, .departed)]

/-! ### Orders: instruments, beacon and tables -/

/-- An INSTRUMENT-SET of the wrong length or with a value outside its set is refused; one that does not disable stores
the hold limit and the enabled setting; no holder, waiter or running timer is touched. -/
def Obligations.InstrumentSetStoresAndEnables : Prop :=
  ∀ (s : State) (o : Order) (rest : List Order), OrderReady s o rest → o.kind = 0x07#8 →
    (o.body.length ≠ 4 → exec .instrumentSet s = .next (s.answered o rest (.refused .badOrder)))
      ∧ (o.body.length = 4 →
          ((byteAt o.body 0).toNat < 1 ∨ 4 < (byteAt o.body 0).toNat ∨ 1 < (byteAt o.body 1).toNat) →
          exec .instrumentSet s = .next (s.answered o rest (.refused .badValue)))
      ∧ ∀ (k : InstrumentId) (enabled : Bool) (limit : Half),
          o.body = instrumentByte k :: levelByte enabled :: le16 limit →
          (enabled = true ∨ (s.instrument k).enabled = false) →
          exec .instrumentSet s = .next
            ((s.answered o rest (.okInstrumentSet enabled limit.toNat none 0#16)).withInstrument k
              { s.instrument k with enabled := enabled, holdLimit := limit.toNat })

/-- An INSTRUMENT-SET that disables revokes the holder without HOLD_OVER and denies every waiter: the record keeps its
last granted lane and its revoked set, and the ANSWER names the lane revoked and the lanes denied. The waiting list in
the REVOKED report is left open here (assumption 9), and which of R194's two orders of beacon and ANSWER happens is
free (assumption 22). -/
def Obligations.InstrumentDisableRevokesAndDenies : Prop :=
  ∀ (s : State) (o : Order) (rest : List Order) (k : InstrumentId) (limit : Half), OrderReady s o rest →
    ArbiterLaw s → o.kind = 0x07#8 → o.body = instrumentByte k :: 0x00#8 :: le16 limit →
    (s.instrument k).enabled = true →
    ∃ u t, exec .instrumentSet s = .next t
      ∧ AnswerFollows s u t o
          (.okInstrumentSet false limit.toNat (s.instrument k).holder (s.instrument k).waiting)
      ∧ u =
        { s.taken o rest with
          lanes := u.lanes, instruments := u.instruments, urgent := u.urgent, urgentDrops := u.urgentDrops
          holding := u.holding, beaconDue := u.beaconDue, intervalTimer := u.intervalTimer
          earlyRequest := u.earlyRequest }
      ∧ u.instrument k =
        { s.instrument k with
          enabled := false, holder := none, holdTimer := none, waiting := 0#16, holdLimit := limit.toNat }
      ∧ (∀ k', k' ≠ k → u.instrument k' = s.instrument k')
      ∧ (∀ i : LaneId, u.lane i =
          { s.lane i with
            control :=
              if inSet (s.instrument k).waiting i then some { kind := .deny, instrument := k }
              else if (s.instrument k).holder = some i then some { kind := .revoke, instrument := k }
              else (s.lane i).control })
      ∧ EventsRecorded s u ((s.instrument k).holder.toList.map fun i => (i, .instrument))
      ∧ ∃ w, UrgentOffered (s.taken o rest) u
          ((s.instrument k).holder.toList.map fun i => .instrument k .revoked i 0 w)

/-- A BEACON-SET of the wrong length or with a value outside its set is refused; one that passes stores the clamped
interval, the notice mask and the selection, and asks for an early beacon where no beacon is due and the holding set
holds a kind of the new mask. A beacon it makes due may enter ahead of the ANSWER (R194); which happens is free
(assumption 22). -/
def Obligations.BeaconSetStoresAndMayAskEarly : Prop :=
  ∀ (s : State) (o : Order) (rest : List Order), OrderReady s o rest → o.kind = 0x08#8 →
    (o.body.length ≠ 5 → exec .beaconSet s = .next (s.answered o rest (.refused .badOrder)))
      ∧ (o.body.length = 5 → (511 < (halfAt o.body 2).toNat ∨ 3 < (byteAt o.body 4).toNat) →
          exec .beaconSet s = .next (s.answered o rest (.refused .badValue)))
      ∧ ∀ (interval : Half) (mask : BitVec 9) (sel : Selection),
          o.body = le16 interval ++ le16 (mask.setWidth 16) ++ [sel.code] →
          ∃ u t, exec .beaconSet s = .next t
            ∧ AnswerFollows s u t o (.okBeaconSet (min 10000 (max 10 interval.toNat)) mask sel)
            ∧ u =
              { s.taken o rest with
                interval := min 10000 (max 10 interval.toNat), noticeMask := mask, selection := sel
                beaconDue := u.beaconDue, intervalTimer := u.intervalTimer, earlyRequest := u.earlyRequest }
            ∧ (if s.beaconDue = false ∧ (∃ (i : LaneId), s.holding[i] &&& mask ≠ 0#9) then
                (if s.spacingTimer = none then
                  u.beaconDue = true ∧ u.intervalTimer = none ∧ u.earlyRequest = false
                else u.beaconDue = false ∧ u.intervalTimer = s.intervalTimer ∧ u.earlyRequest = true)
              else u.beaconDue = s.beaconDue ∧ u.intervalTimer = s.intervalTimer
                ∧ u.earlyRequest = s.earlyRequest)

/-- A LOAD of the LIMIT table writes all its images or none: with every image valid each entry in its range reads as
its image with the reserved byte 00h, and with a failing image the order is refused with the first one's index. A body
whose length is not the header plus its images, a count outside 1 to 64 and a range past index 255 are refused before.
So are a LOAD or READ too short to name a table, a LOAD of a table that cannot be loaded, and an unknown table code
(assumption 8). -/
def Obligations.LoadLimitWritesAllOrNone : Prop :=
  ∀ (s : State) (o : Order) (rest : List Order), OrderReady s o rest → (o.kind = 0x09#8 ∨ o.kind = 0x0A#8) →
    (o.body = [] →
        exec (commandFor 0#4 o) s = .next (s.answered o rest (.refused .badOrder)))
      ∧ (o.kind = 0x0A#8 → o.body.length = 3 → ((byteAt o.body 0).toNat < 1 ∨ 4 < (byteAt o.body 0).toNat) →
          exec .readLimit s = .next (s.answered o rest (.refused .badValue)))
      ∧ (o.kind = 0x09#8 → ∀ size : Nat,
          (o.body.head? = some 0x01#8 ∧ size = 22 ∨ o.body.head? = some 0x03#8 ∧ size = 31
            ∨ o.body.head? = some 0x04#8 ∧ size = 23) →
          (o.body.length ≠ 3 + size * (byteAt o.body 2).toNat →
              exec .loadLimit s = .next (s.answered o rest (.refused .badOrder)))
            ∧ (o.body.length = 3 + size * (byteAt o.body 2).toNat →
              (byteAt o.body 0 ≠ 0x01#8 ∨ byteAt o.body 2 = 0#8 ∨ 64 < (byteAt o.body 2).toNat) →
              exec .loadLimit s = .next (s.answered o rest (.refused .badValue))))
      ∧ (o.kind = 0x09#8 → 3 ≤ o.body.length → ((byteAt o.body 0).toNat < 1 ∨ 4 < (byteAt o.body 0).toNat) →
          exec .loadLimit s = .next (s.answered o rest (.refused .badValue)))
      ∧ ∀ (start count : Byte) (images : List Byte), o.kind = 0x09#8 →
          o.body = 0x01#8 :: start :: count :: images → 1 ≤ count.toNat → count.toNat ≤ 64 →
          images.length = 22 * count.toNat →
          (256 < start.toNat + count.toNat →
              exec .loadLimit s = .next (s.answered o rest (.refused .bounds)))
            ∧ (start.toNat + count.toNat ≤ 256 →
              (∀ k, k < count.toNat → LimitImageOk (imageAt 22 k images)) →
              ∃ t, exec .loadLimit s = .next t
                ∧ t = { s.answered o rest (.okLoad .limit start count) with limits := t.limits }
                ∧ (∀ n : LimitId, (n.val < start.toNat ∨ start.toNat + count.toNat ≤ n.val) →
                    t.limits[n] = s.limits[n])
                ∧ ∀ n : LimitId, start.toNat ≤ n.val → n.val < start.toNat + count.toNat →
                    limitBytes t.limits[n] = (imageAt 22 (n.val - start.toNat) images).set 7 0x00#8)
            ∧ ∀ k, start.toNat + count.toNat ≤ 256 → k < count.toNat → ¬LimitImageOk (imageAt 22 k images) →
                (∀ k', k' < k → LimitImageOk (imageAt 22 k' images)) →
                exec .loadLimit s = .next (s.answered o rest (.refused (.limitInvalid (start.toNat + k))))

/-- A LOAD of the GROUP table writes whole lane sets into consecutive groups from its start index; a body whose length
is not the header plus its images is refused with BAD_ORDER, a count outside 1 to 32 with BAD_VALUE, and a start index
of 0 and a range past group 31 with BOUNDS, and they write no group. -/
def Obligations.LoadGroupWritesLaneSets : Prop :=
  ∀ (s : State) (o : Order) (rest : List Order), OrderReady s o rest → o.kind = 0x09#8 →
    o.body.head? = some 0x02#8 →
    (o.body.length ≠ 3 + 2 * (byteAt o.body 2).toNat →
        exec .loadGroup s = .next (s.answered o rest (.refused .badOrder)))
      ∧ ∀ (start count : Byte) (images : List Byte), o.body = 0x02#8 :: start :: count :: images →
          images.length = 2 * count.toNat →
          ((count.toNat < 1 ∨ 32 < count.toNat) →
              exec .loadGroup s = .next (s.answered o rest (.refused .badValue)))
            ∧ (1 ≤ count.toNat → count.toNat ≤ 32 → (start.toNat = 0 ∨ 32 < start.toNat + count.toNat) →
              exec .loadGroup s = .next (s.answered o rest (.refused .bounds)))
            ∧ (1 ≤ count.toNat → 1 ≤ start.toNat → start.toNat + count.toNat ≤ 32 →
              ∃ t, exec .loadGroup s = .next t
                ∧ t = { s.answered o rest (.okLoad .group start count) with groups := t.groups }
                ∧ ∀ g : Fin 31, t.groups[g] =
                    if start.toNat ≤ g.val + 1 ∧ g.val + 1 < start.toNat + count.toNat then
                      halfAt images (2 * (g.val + 1 - start.toNat))
                    else s.groups[g])

/-- A READ in its bounds answers with its table's images in index order and changes nothing else: limit entries as
stored (R100), group 0 as all sixteen lanes, ROSTER images (R183) and BOARD images (R138) of the lanes as they stand,
byte by byte as R203 lays them out. A READ of the wrong length is refused with BAD_ORDER, one whose count is 0 or
above its table's largest with BAD_VALUE, and one that reaches outside its table with BOUNDS. -/
def Obligations.ReadsAnswerImagesAndChangeNothing : Prop :=
  ∀ (s : State) (o : Order) (rest : List Order), OrderReady s o rest → o.kind = 0x0A#8 →
    (∀ table : Instr × Byte × Nat × Nat × Nat,
        table ∈ ([(.readLimit, 0x01#8, 0, 255, 64), (.readGroup, 0x02#8, 0, 31, 32),
          (.readRoster, 0x03#8, 1, 16, 16), (.readBoard, 0x04#8, 1, 16, 16)]
            : List (Instr × Byte × Nat × Nat × Nat)) →
        (o.body.head? = some table.2.1 → o.body.length ≠ 3 →
            exec table.1 s = .next (s.answered o rest (.refused .badOrder)))
          ∧ ∀ start count : Byte, o.body = [table.2.1, start, count] →
            ((count.toNat < 1 ∨ table.2.2.2.2 < count.toNat) →
                exec table.1 s = .next (s.answered o rest (.refused .badValue)))
              ∧ (1 ≤ count.toNat → count.toNat ≤ table.2.2.2.2 →
                (start.toNat < table.2.2.1 ∨ table.2.2.2.1 + 1 < start.toNat + count.toNat) →
                exec table.1 s = .next (s.answered o rest (.refused .bounds))))
      ∧ ∀ start count : Byte, 1 ≤ count.toNat →
        (o.body = [0x01#8, start, count] → count.toNat ≤ 64 → start.toNat + count.toNat ≤ 256 →
            exec .readLimit s = .next (s.answered o rest (.okRead .limit start count
              (((List.finRange 256).filter fun n =>
                start.toNat ≤ n.val ∧ n.val < start.toNat + count.toNat).map
                  fun n => limitBytes s.limits[n]).flatten)))
          ∧ (o.body = [0x02#8, start, count] → start.toNat + count.toNat ≤ 32 →
            exec .readGroup s = .next (s.answered o rest (.okRead .group start count
              (((List.range 32).filter fun n => start.toNat ≤ n ∧ n < start.toNat + count.toNat).map
                fun n => le16 (s.membersOf (.group n))).flatten)))
          ∧ (o.body = [0x03#8, start, count] → 1 ≤ start.toNat → start.toNat + count.toNat ≤ 17 →
            ∃ images, exec .readRoster s = .next (s.answered o rest (.okRead .roster start count images))
              ∧ images.length = 31 * count.toNat
              ∧ ∀ i : LaneId, start.toNat ≤ i.val + 1 → i.val + 1 < start.toNat + count.toNat →
                RosterImage (s.lane i) (imageAt 31 (i.val + 1 - start.toNat) images))
          ∧ (o.body = [0x04#8, start, count] → 1 ≤ start.toNat → start.toNat + count.toNat ≤ 17 →
            ∃ images, exec .readBoard s = .next (s.answered o rest (.okRead .board start count images))
              ∧ images.length = 23 * count.toNat
              ∧ ∀ i : LaneId, start.toNat ≤ i.val + 1 → i.val + 1 < start.toNat + count.toNat →
                BoardImage (s.lane i) (imageAt 23 (i.val + 1 - start.toNat) images))

/-- R126, R127, R185. The three clearing orders clear exactly their part of each lane of the set, in every lane state,
and answer with the latches after, the verdicts after, and the flags and counters before; a body of the wrong length
is refused. -/
def Obligations.ClearingOrdersClearExactlyTheirPart : Prop :=
  ∀ (s : State) (o : Order) (rest : List Order) (set : LaneSet), OrderReady s o rest →
    (o.body.length ≠ 2 →
        (o.kind = 0x0B#8 → exec .clearVerdict s = .next (s.answered o rest (.refused .badOrder)))
          ∧ (o.kind = 0x0C#8 → exec .unlatch s = .next (s.answered o rest (.refused .badOrder)))
          ∧ (o.kind = 0x0D#8 → exec .clearFlags s = .next (s.answered o rest (.refused .badOrder))))
      ∧ (o.kind = 0x0B#8 → o.body = le16 set → ∃ t, exec .clearVerdict s = .next t
        ∧ t =
          { s.answered o rest (.okClearVerdict ((List.finRange 16).map fun i =>
              if inSet set i then some (s.lane i).board.latch else none)) with lanes := t.lanes }
        ∧ ∀ i : LaneId, t.lane i =
          if inSet set i then
            { s.lane i with
              board :=
                { verdict := .none, passCount := 0, marginalCount := 0, failCount := 0
                  firstFailure := none, latch := (s.lane i).board.latch } }
          else s.lane i)
      ∧ (o.kind = 0x0C#8 → o.body = le16 set → ∃ t, exec .unlatch s = .next t
        ∧ t =
          { s.answered o rest (.okUnlatch ((List.finRange 16).map fun i =>
              if inSet set i then some (s.lane i).board.verdict else none)) with lanes := t.lanes }
        ∧ ∀ i : LaneId, t.lane i =
          if inSet set i then { s.lane i with board := { (s.lane i).board with latch := false } }
          else s.lane i)
      ∧ (o.kind = 0x0D#8 → o.body = le16 set → ∃ t, exec .clearFlags s = .next t
        ∧ t =
          { s.answered o rest (.okClearFlags ((List.finRange 16).map fun i =>
              if inSet set i then some ((s.lane i).flags, (s.lane i).dupCount) else none)) with
            lanes := t.lanes }
        ∧ ∀ i : LaneId, t.lane i =
          if inSet set i then { s.lane i with flags := 0#12, dupCount := 0 } else s.lane i)

/-- R47. A RESUME is refused while STARTUP is set and on a lane that is not STALLED, and with BAD_ORDER or BAD_VALUE
for a body that names no lane; a STALLED lane returns according to its resume state, and to HELD as a duplicate where
another lane has bound its identity since. Which of R194's two orders of beacon and ANSWER happens is free (assumption
22). -/
def Obligations.ResumeReturnsByResumeState : Prop :=
  ∀ (s : State) (o : Order) (rest : List Order), OrderReady s o rest → o.kind = 0x0E#8 →
    (s.startup = true → exec .resume s = .next (s.answered o rest (.refused .notStarted)))
      ∧ (s.startup = false → o.body.length ≠ 1 →
          exec .resume s = .next (s.answered o rest (.refused .badOrder)))
      ∧ (s.startup = false → o.body.length = 1 →
          ((byteAt o.body 0).toNat < 1 ∨ 16 < (byteAt o.body 0).toNat) →
          exec .resume s = .next (s.answered o rest (.refused .badValue)))
      ∧ ∀ i : LaneId, o.body = [laneByte i] → s.startup = false →
          ((s.lane i).state ≠ .stalled → exec .resume s = .next (s.answered o rest (.refused .laneState)))
            ∧ ((s.lane i).state = .stalled → (s.lane i).resume = some .seated →
              exec .resume s = .next
                ((s.answered o rest (.okResume .seated)).withLane i
                  { s.lane i with
                    state := .seated, resume := none
                    announce := .running ((s.lane i).settings.announceLimit * 1000) }))
            ∧ ((s.lane i).state = .stalled → (s.lane i).resume = some .held →
              exec .resume s = .next
                ((s.answered o rest (.okResume .held)).withLane i
                  { s.lane i with state := .held, resume := none }))
            ∧ ∀ id, (s.lane i).identity = some id → (s.lane i).state = .stalled →
              (s.lane i).resume = some .bound →
              ((∀ j, j ≠ i → (s.lane j).state = .bound → (s.lane j).identity ≠ some id) →
                  exec .resume s = .next
                    ((s.answered o rest (.okResume .bound)).withLane i
                      { s.lane i with state := .bound, resume := none }))
                ∧ ((∃ j, j ≠ i ∧ (s.lane j).state = .bound ∧ (s.lane j).identity = some id) →
                  ∃ u t, exec .resume s = .next t
                    ∧ AnswerFollows s u t o (.okResume .held)
                    ∧ u =
                      { (s.taken o rest).withLane i
                          { s.lane i with
                            state := .held, resume := none, announce := .stopped
                            board :=
                              { (s.lane i).board with
                                verdict := .fail, latch := true
                                firstFailure :=
                                  (s.lane i).board.firstFailure.or (some .duplicateIdentity) } } with
                        holding := u.holding, beaconDue := u.beaconDue, intervalTimer := u.intervalTimer
                        earlyRequest := u.earlyRequest }
                    ∧ EventsRecorded s u [(i, .held)])

/-- A START with STARTUP set clears it and takes the lanes in order: an enabled lane becomes EMPTY, or is seated where
its seat level is on, and a disabled lane stays OFF; with STARTUP clear it changes nothing, and with a body it is
refused with BAD_ORDER. That a seated lane's transmitter is free is the model's reading (assumption 7), and which of
R194's two orders of beacon and ANSWER happens is free (assumption 22). -/
def Obligations.StartTakesLanesOutOfOff : Prop :=
  ∀ (s : State) (o : Order) (rest : List Order), OrderReady s o rest → o.kind = 0x0F#8 →
    (o.body ≠ [] → exec .start s = .next (s.answered o rest (.refused .badOrder)))
      ∧ (o.body = [] → s.startup = false →
        exec .start s = .next
          (s.answered o rest (.okStart ((List.finRange 16).map fun i => (s.lane i).state))))
      ∧ (o.body = [] → s.startup = true → (∀ i : LaneId, (s.lane i).state = .off) →
        ∃ u t, exec .start s = .next t
          ∧ AnswerFollows s u t o (.okStart ((List.finRange 16).map fun i => (u.lane i).state))
          ∧ u =
            { s.taken o rest with
              startup := false, lanes := u.lanes, holding := u.holding, beaconDue := u.beaconDue
              intervalTimer := u.intervalTimer, earlyRequest := u.earlyRequest }
          ∧ (∀ i : LaneId, u.lane i =
              if (s.lane i).settings.enabled = false then s.lane i
              else if (s.lane i).seat then seatedLane (s.lane i)
              else { huntingAfresh (s.lane i) with state := .empty })
          ∧ EventsRecorded s u
              (((List.finRange 16).filter fun i => (s.lane i).settings.enabled && (s.lane i).seat).map
                fun i => (i, .seated)))

/-! ### The uplink -/

/-- LINK_UP and LINK_DOWN set the link status, and a BULK_HOLD_EXPIRY ends the hold. A PAUSE that is not damaged and
comes to the flow control or station address starts the hold with its pause time, or stops it for 0; to another
address or with another opcode it is ignored. The expiry comes when less than a millisecond is left (the model's
choice, assumption 4). -/
def Obligations.LinkStatusAndBulkHold : Prop :=
  ∀ s : State,
    exec .linkUp s = .next { s with linkUp := true }
      ∧ exec .linkDown s = .next { s with linkUp := false }
      ∧ (∀ left, s.bulkHold = some left → left < 100000 →
          exec .bulkHoldExpiry s = .next { s with bulkHold := none })
      ∧ (∀ left, s.bulkHold = some left → 100000 ≤ left → exec .bulkHoldExpiry s = .next s)
      ∧ (s.bulkHold = none → exec .bulkHoldExpiry s = .next s)
      ∧ ∀ (destination source more : List Byte) (opcode quanta : Half), destination.length = 6 →
          source.length = 6 → 42 ≤ more.length → more.length ≤ 1496 → s.linkUp = true →
          (opcode = 0x0001#16 →
              (destination = [0x01#8, 0x80#8, 0xC2#8, 0x00#8, 0x00#8, 0x01#8]
                ∨ destination = stationAddress s.station) →
              exec (.pause (ethernetFrame destination source 0x8808#16
                (be16 opcode ++ be16 quanta ++ more)) false) s = .next
                { s with bulkHold := if quanta = 0#16 then none else some (quanta.toNat * 512) })
            ∧ ((opcode ≠ 0x0001#16 ∨ destination ≠ [0x01#8, 0x80#8, 0xC2#8, 0x00#8, 0x00#8, 0x01#8]
                ∧ destination ≠ stationAddress s.station) →
              exec (.pause (ethernetFrame destination source 0x8808#16
                (be16 opcode ++ be16 quanta ++ more)) false) s = .next s)

/-- A frame that passes the filter with the part's own station number and no report kind carries an order: it enters
the ingress queue and sets the host address, or is dropped and counted by a full queue. A frame of another station, or
of a report kind, is ignored. So is a frame that fails a check of R159: its destination neither broadcast nor the
station address, its source a group address or the part's own, or its type neither 88B5h nor 8808h. A frame of type
8808h is flow control, and acts as PAUSE does whichever command brings it. -/
def Obligations.UplinkFrameOffersItsOrder : Prop :=
  ∀ (s : State) (destination source : List Byte), s.linkUp = true → destination.length = 6 → source.length = 6 →
    (∀ (type : Half) (data : List Byte), type ≠ 0x8808#16 → 46 ≤ data.length → data.length ≤ 1500 →
        ((destination ≠ List.replicate 6 0xFF#8 ∧ destination ≠ stationAddress s.station)
          ∨ (byteAt source 0).getLsbD 0 = true ∨ source = stationAddress s.station ∨ type ≠ 0x88B5#16) →
        exec (.uplinkFrame (ethernetFrame destination source type data) false) s = .next s)
      ∧ (∀ (data : List Byte) (rxError : Bool),
        exec (.uplinkFrame (ethernetFrame destination source 0x8808#16 data) rxError) s
          = exec (.pause (ethernetFrame destination source 0x8808#16 data) rxError) s)
      ∧ ∀ (more : List Byte) (station kind : Byte) (number len : Half), 40 ≤ more.length → more.length ≤ 1494 →
        (destination = List.replicate 6 0xFF#8 ∨ destination = stationAddress s.station) →
        (byteAt source 0).getLsbD 0 = false → source ≠ stationAddress s.station →
        ((station ≠ s.station.setWidth 8 ∨ 0x80 ≤ kind.toNat) →
            exec (.uplinkFrame (ethernetFrame destination source 0x88B5#16
              (station :: kind :: le16 number ++ le16 len ++ more)) false) s = .next s)
          ∧ (station = s.station.setWidth 8 → kind.toNat < 0x80 →
            exec (.uplinkFrame (ethernetFrame destination source 0x88B5#16
              (station :: kind :: le16 number ++ le16 len ++ more)) false) s = .next
              (if s.ingress.length < 8 then
                { s with
                  ingress := s.ingress ++
                    [{ kind := kind, number := number, declared := len.toNat, body := more.take len.toNat }]
                  hostAddress := some source }
              else
                { s with ingressDrops := if s.ingressDrops < 65535 then s.ingressDrops + 1 else s.ingressDrops }))

/-- A damaged frame, whatever it carries, is discarded and counted, the counter stopping at 65535; while the link is
down no frame is received. That nothing is counted while the link is down is the model's reading (assumption 17). -/
def Obligations.DamagedFramesAreCounted : Prop :=
  ∀ (s : State) (bytes : List Byte) (rxError : Bool),
    (s.linkUp = false →
        exec (.uplinkFrame bytes rxError) s = .next s ∧ exec (.pause bytes rxError) s = .next s)
      ∧ (s.linkUp = true →
          (rxError = true ∨ bytes.length < 64 ∨ 1518 < bytes.length
            ∨ bytes.drop (bytes.length - 4) ≠ le32 (fcs (bytes.take (bytes.length - 4)))) →
          exec (.uplinkFrame bytes rxError) s = .next
              { s with fcsDrops := if s.fcsDrops < 65535 then s.fcsDrops + 1 else s.fcsDrops }
            ∧ exec (.pause bytes rxError) s = .next
              { s with fcsDrops := if s.fcsDrops < 65535 then s.fcsDrops + 1 else s.fcsDrops })

/-- The free transmitter with the link up starts the urgent head, else the bulk head where bulk is not held, and the
report leaves its queue; with the link down, with bulk held and nothing urgent, or with both queues empty, it starts
nothing. A frame goes out whole (the model's choice, assumptions 2, 6). -/
def Obligations.ReportFrameStartServesUrgentFirst : Prop :=
  ∀ s : State,
    (∀ r rest, s.urgent = r :: rest → s.linkUp = true → exec .reportFrameStart s = .next
        { s with
          urgent := rest
          uplinkLine := reportFrameBytes (s.hostAddress.getD (List.replicate 6 0xFF#8)) s.station r.kind
            r.number r.body })
      ∧ (∀ r rest, s.bulk = r :: rest → s.linkUp = true → s.urgent = [] → s.bulkHold = none →
        exec .reportFrameStart s = .next
          { s with
            bulk := rest
            uplinkLine := reportFrameBytes (s.hostAddress.getD (List.replicate 6 0xFF#8)) s.station r.kind
              0#16 r.body })
      ∧ ((s.linkUp = false ∨ (s.urgent = [] ∧ (s.bulk = [] ∨ s.bulkHold ≠ none))) →
        exec .reportFrameStart s = .next s)

/-- The summary at the head of the closing list enters bulk egress when it has room: it carries the step ID, the
cause, the tag, an entry for each member in lane order and the statistics over the values held (R88, R89), laid out as
R203 says; its record leaves the list, becomes FREE under its last ID and joins the tail of the free order. Without
room or a record nothing happens. The last is the model's choice (assumption 2). The entry is a command of its own
(assumption 16), and the summary is built as it enters (assumption 11). -/
def Obligations.SummaryEntersAndFreesItsRecord : Prop :=
  ∀ s : State,
    (∀ r rest, s.closing = r :: rest → s.bulk.length < 64 → exec .summaryEnqueue s = .next
        { s with
          closing := rest, freeOrder := s.freeOrder ++ [r]
          records := s.records.set r { s.record r with state := .free }
          bulk := s.bulk ++ [.summary (summaryOf (s.record r))] })
      ∧ ((s.closing = [] ∨ 64 ≤ s.bulk.length) → exec .summaryEnqueue s = .next s)
      ∧ ∀ b : SummaryBody, SummaryImage b (BulkReport.summary b).body

/-! ### Lane links -/

/-- A lane frame fed character by character to a hunting receiver has exactly the effect of the whole frame: the
receiver assembles sync pair, length, kind, sequence, payload and check word of every frame as R10's table says, and
the command that brings the frame whole agrees with it. Either way of bringing a frame is the model's choice
(assumption 5). -/
def Obligations.FrameByCharactersIsTheFrame : Prop :=
  ∀ (s : State) (i : LaneId) (framing : Framing) (kind seq : Byte) (payload : List Byte) (check : Half),
    (s.lane i).state.occupied = true → (s.lane i).hunt = .hunt → payload.length ≤ 240 →
    runAll
        (([0x5A#8, match framing with | .app => 0xC3#8 | .loader => 0x3C#8, byteOf payload.length, kind, seq]
          ++ payload ++ le16 check).map fun c => .laneCharacter i c false) s
      = exec (frameCommand i
          { framing := framing, kind := kind, seq := seq, payload := payload, check := check }) s

/-- One character on a lane, by R10's table and R11: with a good stop bit each hunt state takes it as the table says,
the gap timer starting with the gap limit in every state but HUNT, NOISE for a character that belongs to no frame, and
the second check byte completes the frame, which then has the effect of the whole frame (assumption 5). A low stop bit
sets NOISE, and a gap timer that ran out TRUNCATED, the partial frame discarded and the receiver in HUNT; without a
phone the lane discards characters and sets no flag. A gap timeout with time left, or with the timer stopped, changes
nothing (the model's choice, assumptions 2, 4). -/
def Obligations.PartialFramesAreDiscarded : Prop :=
  ∀ (s : State) (i : LaneId) (char : Byte) (l : Lane) (next : Hunt → Lane), l = s.lane i →
    (next = fun h => { l with hunt := h, gapTimer := some l.settings.gapLimit }) →
    (l.state.occupied = false → ∀ stopLow, exec (.laneCharacter i char stopLow) s = .next s)
      ∧ (l.state.occupied = true →
          exec (.laneCharacter i char true) s = .next (s.withLane i (flagged (huntingAfresh l) .noise)))
      ∧ (l.gapTimer = some 0 → exec (.gapTimeout i) s = .next
          (s.withLane i (flagged (huntingAfresh l) .truncated)))
      ∧ (l.gapTimer ≠ some 0 → exec (.gapTimeout i) s = .next s)
      ∧ (l.state.occupied = true →
          match l.hunt with
          | .hunt => exec (.laneCharacter i char false) s = .next (s.withLane i
              (if char = 0x5A#8 then next .sync else flagged (huntingAfresh l) .noise))
          | .sync => exec (.laneCharacter i char false) s = .next (s.withLane i
              (if char = 0xC3#8 then next (.length .app)
              else if char = 0x3C#8 then next (.length .loader)
              else if char = 0x5A#8 then flagged (next .sync) .noise
              else flagged (huntingAfresh l) .noise))
          | .length framing => exec (.laneCharacter i char false) s = .next (s.withLane i
              (if char.toNat ≤ 240 then next (.kind framing char.toNat)
              else flagged (huntingAfresh l) .noise))
          | .kind framing length => exec (.laneCharacter i char false) s = .next (s.withLane i
              (next (.sequence framing length char)))
          | .sequence framing length kind => exec (.laneCharacter i char false) s = .next (s.withLane i
              (next (if length = 0 then .check framing kind char [] none
                else .payload framing length kind char [])))
          | .payload framing length kind seq got => exec (.laneCharacter i char false) s = .next (s.withLane i
              (next (if length ≤ got.length + 1 then .check framing kind seq (got ++ [char]) none
                else .payload framing length kind seq (got ++ [char]))))
          | .check framing kind seq payload none => exec (.laneCharacter i char false) s = .next (s.withLane i
              (next (.check framing kind seq payload (some char))))
          | .check framing kind seq payload (some first) =>
              exec (.laneCharacter i char false) s = exec (frameCommand i
                { framing := framing, kind := kind, seq := seq, payload := payload
                  check := half first char }) s)

/-- A valid frame of the lane's own framing, other than a MARK: discarded unanswered when four MARKs are owed, else
answered TAKEN as a duplicate, AGAIN without room, TAKEN with NOISE when malformed in APP mode, and otherwise TAKEN
and placed in the receive buffer. -/
def Obligations.ReceivedFrameIsAnsweredInOrder : Prop :=
  ∀ (s : State) (i : LaneId) (f : RawFrame) (l : Lane), (s.lane i).state.occupied = true →
    f.framing = (s.lane i).mode → f.kind ≠ 0x20#8 → f.check = checkWord f.kind f.seq f.payload →
    l = huntingAfresh (s.lane i) →
    (4 ≤ l.marks.length → exec (.laneFrameReceived i f) s = .next (s.withLane i l))
      ∧ (l.marks.length < 4 → l.lastTaken = some f.seq →
          exec (.laneFrameReceived i f) s = .next (s.withLane i
            { owing l f.seq .taken with dupCount := if l.dupCount < 65535 then l.dupCount + 1 else l.dupCount }))
      ∧ (l.marks.length < 4 → l.lastTaken ≠ some f.seq → 2 ≤ l.rxBuffer.length →
          exec (.laneFrameReceived i f) s = .next (s.withLane i (owing l f.seq .again)))
      ∧ (l.marks.length < 4 → l.lastTaken ≠ some f.seq → l.rxBuffer.length < 2 →
          (l.mode = .app ∧ Malformed f.kind f.payload) →
          exec (.laneFrameReceived i f) s = .next (s.withLane i
            (flagged { owing l f.seq .taken with lastTaken := some f.seq } .noise)))
      ∧ (l.marks.length < 4 → l.lastTaken ≠ some f.seq → l.rxBuffer.length < 2 →
          ¬(l.mode = .app ∧ Malformed f.kind f.payload) →
          exec (.laneFrameReceived i f) s = .next (s.withLane i
            { owing l f.seq .taken with
              lastTaken := some f.seq
              rxBuffer := l.rxBuffer ++ [⟨f.framing, f.kind, f.seq, f.payload⟩] }))

/-- A complete frame with a bad check word sets RX_CHECK and is discarded; it is answered SPOILT where the backlog has
room, but never where its kind byte reads MARK, and it switches no mode. -/
def Obligations.BadCheckWordIsSpoilt : Prop :=
  ∀ (s : State) (i : LaneId) (framing : Framing) (kind seq : Byte) (payload : List Byte) (check : Half)
    (l : Lane), (s.lane i).state.occupied = true → check ≠ checkWord kind seq payload →
    l = flagged (huntingAfresh (s.lane i)) .rxCheck →
    (kind = 0x20#8 → exec (.mark i framing seq payload check) s = .next (s.withLane i l))
      ∧ (kind ≠ 0x20#8 → exec (.laneFrameReceived i
          { framing := framing, kind := kind, seq := seq, payload := payload, check := check }) s = .next
            (s.withLane i (if l.marks.length < 4 then owing l seq .spoilt else l)))

/-- A valid frame in the other framing, of any kind, switches the mode before it is handled: sequences afresh, frame
in flight and control slot gone; then it is answered TAKEN, AGAIN or not at all as any frame of the new mode, or, a
MARK, finds nothing in flight. A switch into LOADER is a restart whatever becomes of the frame: the lane is SEATED, a
BOUND lane loses its entries as LOST with their unsent DO frames and everything it had at the arbiter, and LOADER is
recorded. A switch back to APP is no restart, and stands where the frame is malformed in APP mode. What becomes of the
transmitter is left open here (assumption 7). -/
def Obligations.ModeSwitchIntoLoaderRestarts : Prop :=
  ∀ (s : State) (i : LaneId) (f : RawFrame), Lawful s → (s.lane i).state.occupied = true →
    f.framing ≠ (s.lane i).mode → f.check = checkWord f.kind f.seq f.payload →
    ∃ t, exec (frameCommand i f) s = .next t
      ∧ (f.framing = .loader →
        HandledAfresh
            { s.lane i with
              mode := .loader, lastTaken := none, txSeq := 0#8, inFlight := none, control := none
              hunt := .hunt, gapTimer := none, state := .seated, outstanding := []
              announce := .running ((s.lane i).settings.announceLimit * 1000)
              resume := if (s.lane i).state = .stalled then none else (s.lane i).resume
              txQueue := (s.lane i).txQueue.filter fun q =>
                match q with
                | .doStep id _ _ => !((s.lane i).outstanding.any fun e => e.stepId == id)
                | .passOn _ => true
              txBusy := (t.lane i).txBusy }
            (t.lane i) f
          ∧ LaneLoss s t i .lost [] [(i, .loader)])
      ∧ (f.framing = .app →
        HandledAfresh
            { s.lane i with
              mode := .app, lastTaken := none, txSeq := 0#8, inFlight := none, control := none
              hunt := .hunt, gapTimer := none, txBusy := (t.lane i).txBusy }
            (t.lane i) f
          ∧ t = s.withLane i (t.lane i))

/-- A valid MARK of the lane's own framing acts on the frame in flight as R20's table says, as long as no send failure
results; a malformed MARK, its payload not 2 bytes or its code none of the three, sets NOISE. What becomes of the
transmitter is the model's reading (assumption 7). -/
def Obligations.MarkActsOnTheFrameInFlight : Prop :=
  ∀ (s : State) (i : LaneId) (seq marked code : Byte) (check : Half) (l : Lane),
    (s.lane i).state.occupied = true → check = checkWord 0x20#8 seq [marked, code] →
    l = huntingAfresh (s.lane i) →
    (∀ payload, MarkMalformed payload →
        exec (.mark i l.mode seq payload (checkWord 0x20#8 seq payload)) s = .next
          (s.withLane i (flagged l .noise)))
      ∧ (l.inFlight = none → code.toNat ≤ 2 →
          exec (.mark i l.mode seq [marked, code] check) s = .next (s.withLane i l))
      ∧ ∀ f, l.inFlight = some f → code.toNat ≤ 2 →
          (marked ≠ f.seq → exec (.mark i l.mode seq [marked, code] check) s = .next (s.withLane i l))
            ∧ (marked = f.seq → code = 0x00#8 → exec (.mark i l.mode seq [marked, code] check) s = .next
                (s.withLane i { l with inFlight := none }))
            ∧ (∀ n, f.phase = .awaiting n → marked = f.seq → code = 0x01#8 →
                f.resends < l.settings.retryLimit →
                exec (.mark i l.mode seq [marked, code] check) s = .next
                  (s.withLane i
                    { l with
                      inFlight := some
                        { f with resends := f.resends + 1, phase := .paused l.settings.retryPause } }))
            ∧ (∀ n, f.phase = .awaiting n → marked = f.seq → code = 0x02#8 →
                f.resends < l.settings.retryLimit →
                exec (.mark i l.mode seq [marked, code] check) s = .next
                  (s.withLane i
                    (flagged { l with inFlight := some { f with resends := f.resends + 1, phase := .due } }
                      .txSpoilt)))
            ∧ (marked = f.seq → code ≠ 0x00#8 → (∀ n, f.phase ≠ .awaiting n) →
                exec (.mark i l.mode seq [marked, code] check) s = .next (s.withLane i l))

/-- The free transmitter of a lane: an owed MARK goes first, where the lane holds a phone; then a resend that is due;
then, with no frame in flight, the control slot before the head of the transmit queue, under the transmit sequence,
which advances and wraps. A lane that serves no own frames, or owes a MARK, starts none. When it is free, and that a
command that cannot act changes nothing, are the model's choices (assumptions 2, 6). -/
def Obligations.TransmitterSendsMarkThenResendThenNew : Prop :=
  ∀ (s : State) (i : LaneId) (l : Lane), l = s.lane i →
    (∀ m rest, l.marks = m :: rest → l.state.occupied = true → l.txBusy = false →
        exec (.sendMark i) s = .next (s.withLane i
          { l with marks := rest, txLine := laneFrameBytes l.mode 0x20#8 0x00#8 [m.seq, m.code.code] }))
      ∧ ((l.state.occupied = false ∨ l.marks = []) → exec (.sendMark i) s = .next s)
      ∧ ((l.state.servesOwn = false ∨ l.marks ≠ []) →
          exec (.sendNewFrame i) s = .next s ∧ exec (.sendResend i) s = .next s)
      ∧ (l.state.servesOwn = true → l.txBusy = false → l.marks = [] →
          (∀ f, l.inFlight = some f → exec (.sendNewFrame i) s = .next s
              ∧ (f.phase = .due → exec (.sendResend i) s = .next (s.withLane i
                { l with
                  inFlight := some { f with phase := .sending }, txBusy := true
                  txLine := laneFrameBytes l.mode f.frame.kind f.seq f.frame.payload }))
              ∧ (f.phase ≠ .due → exec (.sendResend i) s = .next s))
            ∧ (l.inFlight = none → exec (.sendResend i) s = .next s
              ∧ (∀ c, l.control = some c → exec (.sendNewFrame i) s = .next (s.withLane i
                { l with
                  control := none, txSeq := l.txSeq + 1, txBusy := true
                  inFlight := some { frame := .control c, seq := l.txSeq, resends := 0, phase := .sending }
                  txLine := laneFrameBytes l.mode c.kind.code l.txSeq [instrumentByte c.instrument] }))
              ∧ (∀ q rest, l.txQueue = q :: rest → l.control = none →
                exec (.sendNewFrame i) s = .next (s.withLane i
                { l with
                  txQueue := rest, txSeq := l.txSeq + 1, txBusy := true
                  inFlight := some { frame := .queued q, seq := l.txSeq, resends := 0, phase := .sending }
                  txLine := laneFrameBytes l.mode
                    (match q with | .doStep _ _ _ => 0x01#8 | .passOn _ => 0x02#8) l.txSeq
                    (match q with
                      | .doStep id tag command => le16 id ++ tag :: command
                      | .passOn payload => payload) }))
              ∧ (l.control = none → l.txQueue = [] → exec (.sendNewFrame i) s = .next s)))

/-- The phases of the frame in flight on its timers: the last byte out starts the mark window, the retry pause running
out makes the resend due, and the mark window running out counts a resend and makes it due. With time left, or in
another phase, the two expiries change nothing. The free transmitter and the moment of an expiry are the model's
choices (assumptions 2, 4, 6). -/
def Obligations.SendPhasesFollowTheirTimers : Prop :=
  ∀ (s : State) (i : LaneId) (f : InFlight), (s.lane i).inFlight = some f →
    (f.phase = .sending → exec (.lastByteOut i) s = .next (s.withLane i
        { s.lane i with
          txBusy := false
          inFlight := some { f with phase := .awaiting (s.lane i).settings.markWindow } }))
      ∧ (f.phase = .paused 0 → exec (.retryPauseExpiry i) s = .next (s.withLane i
          { s.lane i with inFlight := some { f with phase := .due } }))
      ∧ (f.phase = .awaiting 0 → f.resends < (s.lane i).settings.retryLimit →
          exec (.markWindowExpiry i) s = .next (s.withLane i
            { s.lane i with inFlight := some { f with resends := f.resends + 1, phase := .due } }))
      ∧ (f.phase ≠ .paused 0 → exec (.retryPauseExpiry i) s = .next s)
      ∧ (f.phase ≠ .awaiting 0 → exec (.markWindowExpiry i) s = .next s)

/-- A resend counted past the retry limit, by the mark window running out or by a MARK AGAIN or SPOILT, abandons the
frame: SEND_FAILED is set, the lane is STALLED with its resume state noted and its own frames gone, a BOUND lane's
entries become UNDELIVERED and it loses everything at the arbiter, and STALLED is recorded. The transmitter stays as
it stands (assumption 7). -/
def Obligations.SendFailureStallsTheLane : Prop :=
  ∀ (s : State) (i : LaneId) (f : InFlight) (n : Nat) (st : ResumeState), Lawful s →
    (s.lane i).inFlight = some f → f.phase = .awaiting n → (s.lane i).settings.retryLimit ≤ f.resends →
    (s.lane i).state = (match st with | .seated => .seated | .bound => .bound | .held => .held) →
    (n = 0 → ∃ t, exec (.markWindowExpiry i) s = .next t
        ∧ t.lane i =
          { flagged (s.lane i) .sendFailed with
            state := .stalled, resume := some st, inFlight := none, control := none, txQueue := []
            outstanding := [], announce := .stopped }
        ∧ LaneLoss s t i .undelivered [] [(i, .stalled)])
      ∧ ∀ (seq code : Byte) (check : Half), (code = 0x01#8 ∨ code = 0x02#8) →
        check = checkWord 0x20#8 seq [f.seq, code] →
        ∃ t, exec (.mark i (s.lane i).mode seq [f.seq, code] check) s = .next t
          ∧ t.lane i =
            { flagged
                (if code = 0x02#8 then flagged (huntingAfresh (s.lane i)) .txSpoilt
                else huntingAfresh (s.lane i)) .sendFailed with
              state := .stalled, resume := some st, inFlight := none, control := none, txQueue := []
              outstanding := [], announce := .stopped }
          ∧ LaneLoss s t i .undelivered [] [(i, .stalled)]

/-! ### Seat sense and the pocket's timers -/

/-- A change of the raw SEAT input away from the debounced level starts a stopped debounce timer, one back to it stops
the timer; the announce timer running out sets MUTE and stands expired; the key pulse running out releases KEY. With
time left, or stopped, the two expiries change nothing (the model's choice, assumptions 2, 4). -/
def Obligations.PocketInputsAndTimers : Prop :=
  ∀ (s : State) (i : LaneId),
    (∀ level, exec (.seatChange i level) s = .next (s.withLane i
        { s.lane i with
          rawSeat := level
          debounce :=
            if level = (s.lane i).seat then none
            else if (s.lane i).debounce = none then some (s.lane i).settings.debounceTime
            else (s.lane i).debounce }))
      ∧ ((s.lane i).announce = .running 0 → ∃ t, exec (.announceExpiry i) s = .next t
        ∧ t =
          { s.withLane i { flagged (s.lane i) .mute with announce := .expired } with
            holding := t.holding, beaconDue := t.beaconDue, intervalTimer := t.intervalTimer
            earlyRequest := t.earlyRequest }
        ∧ EventsRecorded s t [(i, .mute)])
      ∧ ((s.lane i).announce ≠ .running 0 → exec (.announceExpiry i) s = .next s)
      ∧ ((s.lane i).keyPulse = some 0 →
        exec (.keyPulseExpiry i) s = .next (s.withLane i { s.lane i with keyPulse := none }))
      ∧ ((s.lane i).keyPulse ≠ some 0 → exec (.keyPulseExpiry i) s = .next s)

/-- The debounce timer running out while the raw level differs from the debounced level: on a rise an EMPTY lane is
seated and SEATED recorded, and in OFF a rise or a fall changes only the debounced level. With time left, or stopped,
the expiry changes nothing (the model's choice, assumptions 2, 4), and that a seated lane's transmitter is free is the
model's reading (assumption 7). -/
def Obligations.DebouncedRiseSeatsAnEmptyLane : Prop :=
  ∀ (s : State) (i : LaneId) (l : Lane), l = { s.lane i with debounce := none, seat := (s.lane i).rawSeat } →
    ((s.lane i).debounce ≠ some 0 → exec (.debounceExpiry i) s = .next s)
      ∧ ((s.lane i).debounce = some 0 → (s.lane i).rawSeat ≠ (s.lane i).seat → (s.lane i).state = .off →
        exec (.debounceExpiry i) s = .next (s.withLane i l))
      ∧ ((s.lane i).debounce = some 0 → (s.lane i).rawSeat = true → (s.lane i).seat = false →
        (s.lane i).state = .empty → ∃ t, exec (.debounceExpiry i) s = .next t
        ∧ t =
          { s.withLane i (seatedLane l) with
            holding := t.holding, beaconDue := t.beaconDue, intervalTimer := t.intervalTimer
            earlyRequest := t.earlyRequest }
        ∧ EventsRecorded s t [(i, .seated)])

/-! ### The dispatcher's destinations -/

/-- A HELLO on a lane that holds no other identity, taken by the roster in APP mode: too long or empty it sets
BAD_HELLO; with its identity BOUND nowhere else the lane is bound, fresh or as a return; otherwise the lane is held as
a duplicate. A HELLO on a lane in LOADER mode is discarded. -/
def Obligations.HelloBindsOrHolds : Prop :=
  ∀ (s : State) (i : LaneId) (f : RxFrame) (more : List RxFrame) (l : Lane), NextFrame s i f more →
    f.framing = .app → f.kind = 0x10#8 → l = { s.lane i with rxBuffer := more } →
    (l.mode = .loader → exec .hello s = .next { s.withLane i l with pointer := i })
      ∧ (l.mode = .app → (f.payload = [] ∨ 24 < f.payload.length) →
        exec .hello s = .next { s.withLane i (flagged l .badHello) with pointer := i })
      ∧ (l.mode = .app → f.payload ≠ [] → f.payload.length ≤ 24 →
        (l.state = .seated ∨ l.state = .stalled ∨ l.state = .held) →
        (l.identity = none ∨ l.identity = some f.payload) → ∃ t, exec .hello s = .next t
          ∧ t =
            { s.withLane i (t.lane i) with
              pointer := i, holding := t.holding, beaconDue := t.beaconDue
              intervalTimer := t.intervalTimer, earlyRequest := t.earlyRequest }
          ∧ (if ∃ j, j ≠ i ∧ (s.lane j).state = .bound ∧ (s.lane j).identity = some f.payload then
              t.lane i =
                { l with
                  state := .held, identity := some f.payload, announce := .stopped, resume := none
                  board :=
                    { l.board with
                      verdict := .fail, latch := true
                      firstFailure := l.board.firstFailure.or (some .duplicateIdentity) } }
              ∧ EventsRecorded s t [(i, .held)]
            else
              t.lane i =
                { l with
                  state := .bound, identity := some f.payload, announce := .stopped, resume := none
                  bindCount := if l.bindCount < 255 then l.bindCount + 1 else l.bindCount
                  board :=
                    if l.identity = none then
                      { verdict := .none, passCount := 0, marginalCount := 0, failCount := 0
                        firstFailure := none, latch := l.board.latch }
                    else l.board }
              ∧ EventsRecorded s t [(i, if l.identity = none then .bound else .rebound)]))

/-- A HELLO on a BOUND lane under the lane's own identity is a rebind: its entries become LOST with their unsent DO
frames, the frame in flight goes unless it is a PASS-ON, the control slot is emptied, everything at the arbiter is
lost, the bind count increments, and the lane stays BOUND with its record. -/
def Obligations.RebindLosesTheLanesWork : Prop :=
  ∀ (s : State) (i : LaneId) (f : RxFrame) (more : List RxFrame), NextFrame s i f more → Lawful s →
    f.framing = .app → f.kind = 0x10#8 → (s.lane i).mode = .app → f.payload ≠ [] →
    f.payload.length ≤ 24 → (s.lane i).state = .bound → (s.lane i).identity = some f.payload →
    ∃ t, exec .hello s = .next t
      ∧ t.lane i =
        { s.lane i with
          rxBuffer := more, outstanding := [], control := none
          txQueue := (s.lane i).txQueue.filter fun q =>
            match q with
            | .doStep id _ _ => !((s.lane i).outstanding.any fun e => e.stepId == id)
            | .passOn _ => true
          inFlight :=
            match (s.lane i).inFlight with
            | some { frame := .queued (.passOn p), seq, resends, phase } =>
              some { frame := .queued (.passOn p), seq, resends, phase }
            | _ => none
          bindCount :=
            if (s.lane i).bindCount < 255 then (s.lane i).bindCount + 1 else (s.lane i).bindCount
          txBusy := (t.lane i).txBusy }
      ∧ LaneLoss { s with pointer := i } t i .lost [] [(i, .rebound)]

/-- A HELLO under another identity than the lane holds departs the lane with cause SWAPPED, POWER left as it stands,
the report carrying the old identity; the new identity is then bound as fresh, or held as a duplicate on an empty
record. DEPARTED is recorded, and BOUND or HELD. What becomes of the transmitter is left open here (assumption 7). -/
def Obligations.SwapDepartsThenBindsOrHolds : Prop :=
  ∀ (s : State) (i : LaneId) (f : RxFrame) (more : List RxFrame) (old : List Byte) (l : Lane),
    NextFrame s i f more → Lawful s → f.framing = .app → f.kind = 0x10#8 → (s.lane i).mode = .app →
    f.payload ≠ [] → f.payload.length ≤ 24 → (s.lane i).state.occupied = true →
    (s.lane i).identity = some old → old ≠ f.payload → l = departedLane (s.lane i) →
    ∃ t, exec .hello s = .next t
      ∧ LaneLoss { s with pointer := i } t i .gone
          [.departure i .swapped (some old) (s.lane i).bindCount (s.lane i).board]
          [(i, .departed), (i,
            if ∃ j, j ≠ i ∧ (s.lane j).state = .bound ∧ (s.lane j).identity = some f.payload then .held
            else .bound)]
      ∧ t.lane i =
        (if ∃ j, j ≠ i ∧ (s.lane j).state = .bound ∧ (s.lane j).identity = some f.payload then
          { l with
            state := .held, identity := some f.payload, txBusy := (t.lane i).txBusy
            board :=
              { verdict := .fail, passCount := 0, marginalCount := 0, failCount := 0
                firstFailure := some .duplicateIdentity, latch := true } }
        else
          { l with
            state := .bound, identity := some f.payload, bindCount := 1, txBusy := (t.lane i).txBusy })

/-- A RESULT that matches an outstanding entry by step ID and tag is judged (R75). The member takes the worse verdict,
one more result and the statistic value (R76). The lane's verdict record counts the result under its verdict, each
count stopping at 65535, and takes the worse verdict (R120), the result's first failure where it has none (R121), and
the latch for a critical failure (R122). A STREAM step offers a COPY with the result's own verdict and the member's
new count (R84, R85), a final result makes the member ANSWERED and removes its entry (R77), and the step closes
COMPLETE when nobody else owes (R60). -/
def Obligations.MatchedResultIsJudged : Prop :=
  ∀ (s : State) (i : LaneId) (f : RxFrame) (more : List RxFrame) (e : OutEntry) (n : StepRecord) (m : Member)
    (g : Findings) (final : Bool),
    NextFrame s i f more → Lawful s → f.framing = .app → f.kind = 0x11#8 →
    e ∈ (s.lane i).outstanding → halfAt f.payload 0 = e.stepId → n = s.record e.record →
    byteAt f.payload 2 = n.tag → n.members[i] = some m → final = (byteAt f.payload 3 == 0x01#8) →
    g = judge s.limits n.limitGroup n.tag n.statEntry (resultOfPayload f.payload) →
    ∃ t, exec .result s = .next t
      ∧ t =
        { s with
          pointer := i, lanes := t.lanes, records := t.records, freeOrder := t.freeOrder
          closing := t.closing, bulk := t.bulk, bulkDrops := t.bulkDrops }
      ∧ (∀ j, j ≠ i → t.lane j = s.lane j)
      ∧ (∀ r', r' ≠ e.record → t.record r' = s.record r')
      ∧ t.lane i =
        { s.lane i with
          rxBuffer := more
          outstanding :=
            if final then (s.lane i).outstanding.filter fun e' => e'.record ≠ e.record
            else (s.lane i).outstanding
          board :=
            { verdict := worseOf (s.lane i).board.verdict g.verdict
              passCount := countedIf (g.verdict == .pass) 65535 (s.lane i).board.passCount
              marginalCount := countedIf (g.verdict == .marginal) 65535 (s.lane i).board.marginalCount
              failCount := countedIf (g.verdict == .fail) 65535 (s.lane i).board.failCount
              firstFailure :=
                if g.verdict = .fail ∧ (s.lane i).board.firstFailure = none then
                  g.firstFailure.map fun first => .judged e.stepId n.tag first.1 first.2
                else (s.lane i).board.firstFailure
              latch := (s.lane i).board.latch || g.critical } }
      ∧ (t.record e.record).members = n.members.set i (some
          { outcome := if final then .answered else .partialAnswer
            verdict := worseOf m.verdict g.verdict
            count := if m.count < 255 then m.count + 1 else m.count
            stat := g.stat.or m.stat })
      ∧ (∃ u, (if n.stream then BulkOffered s u (.copy i g.verdict
              (if m.count < 255 then m.count + 1 else m.count) f.payload)
            else u.bulk = s.bulk ∧ u.bulkDrops = s.bulkDrops)
          ∧ t.bulkDrops = u.bulkDrops
          ∧ (if final = true ∧ (∀ j, j ≠ i → n.owes j = false) then
              t.record e.record =
                  { n with
                    members := (t.record e.record).members, state := (t.record e.record).state
                    deadline := none, cause := some .complete }
                ∧ ClosedInto { s with bulk := u.bulk } t [e.record]
            else
              t.record e.record = { n with members := (t.record e.record).members }
                ∧ t.bulk = u.bulk ∧ t.closing = s.closing ∧ t.freeOrder = s.freeOrder))

/-- A RESULT that finds no entry is STRAY, or LATE while a closed step still carries its ID; one whose tag is not its
step's is BAD_TAG and STRAY; neither is judged, and each is offered upstream as a TEXT report. A TEXT, and any frame
recorded in LOADER framing, is offered under class TEXT or LOADER. -/
def Obligations.UnjudgedFramesGoUpstreamAsText : Prop :=
  ∀ (s : State) (i : LaneId) (f : RxFrame) (more : List RxFrame) (l : Lane), NextFrame s i f more →
    l = { s.lane i with rxBuffer := more } →
    (f.framing = .app → f.kind = 0x11#8 →
        (∀ e ∈ (s.lane i).outstanding, e.stepId ≠ halfAt f.payload 0) → ∃ t, exec .result s = .next t
          ∧ (if ∃ r, (s.record r).state ≠ .opened ∧ (s.record r).stepId = some (halfAt f.payload 0) then
              t = { s.withLane i (flagged (flagged l .stray) .late) with
                pointer := i, bulk := t.bulk, bulkDrops := t.bulkDrops }
              ∧ BulkOffered s t (.text i .late 0x11#8 f.seq f.payload)
            else
              t = { s.withLane i (flagged l .stray) with
                pointer := i, bulk := t.bulk, bulkDrops := t.bulkDrops }
              ∧ BulkOffered s t (.text i .stray 0x11#8 f.seq f.payload)))
      ∧ (∀ e ∈ (s.lane i).outstanding, OwingLaw s → TableLaw s → f.framing = .app → f.kind = 0x11#8 →
          e.stepId = halfAt f.payload 0 → byteAt f.payload 2 ≠ (s.record e.record).tag →
          ∃ t, exec .result s = .next t
          ∧ t = { s.withLane i (flagged (flagged l .badTag) .stray) with
            pointer := i, bulk := t.bulk, bulkDrops := t.bulkDrops }
          ∧ BulkOffered s t (.text i .stray 0x11#8 f.seq f.payload))
      ∧ ((f.framing = .loader ∨ f.kind = 0x12#8) → ∃ t, exec .text s = .next t
          ∧ t = { s.withLane i l with pointer := i, bulk := t.bulk, bulkDrops := t.bulkDrops }
          ∧ BulkOffered s t
              (.text i (if f.framing = .loader then .loader else .text) f.kind f.seq f.payload))

/-- A CLAIM, its lane first leaving the revoked set: denied from a lane that is not BOUND or for a disabled
instrument, without a frame from a STALLED lane; ignored from the holder or a waiter; granted on a free instrument;
and otherwise the lane waits. -/
def Obligations.ClaimIsDeniedGrantedOrWaits : Prop :=
  ∀ (s : State) (i : LaneId) (f : RxFrame) (more : List RxFrame) (k : InstrumentId) (l : Lane) (n : Instrument),
    NextFrame s i f more → f.framing = .app → f.kind = 0x13#8 → f.payload = [instrumentByte k] →
    l = { s.lane i with rxBuffer := more } →
    n = { s.instrument k with revoked := removeLane (s.instrument k).revoked i } →
    ((l.state ≠ .bound ∨ n.enabled = false) → exec .claim s = .next
        { (s.withLane i
            (if l.state = .stalled then l
            else { l with control := some { kind := .deny, instrument := k } })).withInstrument k n with
          pointer := i })
      ∧ (l.state = .bound → n.enabled = true → (n.holder = some i ∨ inSet n.waiting i = true) →
        exec .claim s = .next { (s.withLane i l).withInstrument k n with pointer := i })
      ∧ (l.state = .bound → n.enabled = true → n.holder ≠ some i → inSet n.waiting i = false →
        n.holder ≠ none → exec .claim s = .next
          { (s.withLane i l).withInstrument k { n with waiting := addLane n.waiting i } with pointer := i })
      ∧ (l.state = .bound → n.enabled = true → n.holder = none → inSet n.waiting i = false →
        ∃ t, exec .claim s = .next t
          ∧ t =
            { (s.withLane i { l with control := some { kind := .grant, instrument := k } }).withInstrument k
                { n with
                  holder := some i, lastGranted := i, waiting := removeLane n.waiting i
                  holdTimer := if n.holdLimit = 0 then none else some n.holdLimit } with
              pointer := i, urgent := t.urgent, urgentDrops := t.urgentDrops, holding := t.holding
              beaconDue := t.beaconDue, intervalTimer := t.intervalTimer, earlyRequest := t.earlyRequest }
          ∧ EventsRecorded s t [(i, .instrument)]
          ∧ UrgentOffered s t
              [.instrument k .granted i n.holdLimit (removeLane (s.instrument k).waiting i)])

/-- The end of a hold by the holder's RELEASE (R147) or by the hold timer (R149): the instrument goes to the first
waiter in rotation after the last granted lane, or stays free (R146); the ending is reported before the grant; a
revoked holder gets HOLD_OVER and a REVOKE frame and joins the revoked set. A RELEASE from another lane is ignored,
but for LATE_RELEASE once after a revocation (R148). After a RELEASE the old hold's expiry does not happen (R156);
with time left, or stopped, an expiry changes nothing (the model's choice, assumptions 2, 4). -/
def Obligations.ReleaseAndHoldExpiryPassTheInstrumentOn : Prop :=
  ∀ (s : State) (i : LaneId) (k : InstrumentId) (n : Instrument), ArbiterLaw s → n = s.instrument k →
    (∀ (f : RxFrame) (more : List RxFrame), NextFrame s i f more → f.framing = .app → f.kind = 0x14#8 →
        f.payload = [instrumentByte k] →
        (n.holder ≠ some i → inSet n.revoked i = false → exec .release s = .next
            { s.withLane i { s.lane i with rxBuffer := more } with pointer := i })
          ∧ (n.holder ≠ some i → inSet n.revoked i = true → exec .release s = .next
            { (s.withLane i (flagged { s.lane i with rxBuffer := more } .lateRelease)).withInstrument k
                { n with revoked := removeLane n.revoked i } with pointer := i })
          ∧ (n.holder = some i → firstAfter n.lastGranted n.waiting = none → ∃ t, exec .release s = .next t
            ∧ t =
              { (s.withLane i { s.lane i with rxBuffer := more }).withInstrument k
                  { n with holder := none, holdTimer := none } with
                pointer := i, urgent := t.urgent, urgentDrops := t.urgentDrops, holding := t.holding
                beaconDue := t.beaconDue, intervalTimer := t.intervalTimer, earlyRequest := t.earlyRequest }
            ∧ EventsRecorded s t [(i, .instrument)]
            ∧ UrgentOffered s t [.instrument k .released i 0 n.waiting]
            ∧ exec (.holdExpiry k) t = .next t)
          ∧ ∀ j, n.holder = some i → firstAfter n.lastGranted n.waiting = some j →
            ∃ t, exec .release s = .next t
            ∧ t =
              { ((s.withLane i { s.lane i with rxBuffer := more }).withLane j
                  { s.lane j with control := some { kind := .grant, instrument := k } }).withInstrument k
                  { n with
                    holder := some j, lastGranted := j, waiting := removeLane n.waiting j
                    revoked := removeLane n.revoked j
                    holdTimer := if n.holdLimit = 0 then none else some n.holdLimit } with
                pointer := i, urgent := t.urgent, urgentDrops := t.urgentDrops, holding := t.holding
                beaconDue := t.beaconDue, intervalTimer := t.intervalTimer, earlyRequest := t.earlyRequest }
            ∧ EventsRecorded s t [(i, .instrument), (j, .instrument)]
            ∧ UrgentOffered s t [.instrument k .released i 0 n.waiting,
                .instrument k .granted j n.holdLimit (removeLane n.waiting j)]
            ∧ exec (.holdExpiry k) t = .next t)
      ∧ (n.holdTimer ≠ some 0 → exec (.holdExpiry k) s = .next s)
      ∧ (n.holder = some i → n.holdTimer = some 0 → ∃ t, exec (.holdExpiry k) s = .next t
        ∧ t =
          { s with
            lanes := t.lanes, instruments := t.instruments, urgent := t.urgent, urgentDrops := t.urgentDrops
            holding := t.holding, beaconDue := t.beaconDue, intervalTimer := t.intervalTimer
            earlyRequest := t.earlyRequest }
        ∧ (∀ k', k' ≠ k → t.instrument k' = s.instrument k')
        ∧ t.lane i =
          { flagged (s.lane i) .holdOver with control := some { kind := .revoke, instrument := k } }
        ∧ (match firstAfter n.lastGranted n.waiting with
          | none =>
            t.instrument k = { n with holder := none, holdTimer := none, revoked := addLane n.revoked i }
              ∧ (∀ j, j ≠ i → t.lane j = s.lane j)
              ∧ EventsRecorded s t [(i, .instrument)]
              ∧ UrgentOffered s t [.instrument k .revoked i 0 n.waiting]
          | some j =>
            t.instrument k =
                { n with
                  holder := some j, lastGranted := j, waiting := removeLane n.waiting j
                  revoked := removeLane (addLane n.revoked i) j
                  holdTimer := if n.holdLimit = 0 then none else some n.holdLimit }
              ∧ (∀ j', j' ≠ i → t.lane j' =
                  if j' = j then { s.lane j with control := some { kind := .grant, instrument := k } }
                  else s.lane j')
              ∧ EventsRecorded s t [(i, .instrument), (j, .instrument)]
              ∧ UrgentOffered s t [.instrument k .revoked i 0 n.waiting,
                  .instrument k .granted j n.holdLimit (removeLane n.waiting j)]))

/-! ### The beacon -/

/-- A beacon falls due when the interval timer runs out, or when the spacing timer runs out with the early request
set; falling due stops the interval timer and clears the request. With time left, or stopped, the two expiries change
nothing (the model's choice, assumptions 2, 4). -/
def Obligations.BeaconTimersMakeBeaconsDue : Prop :=
  ∀ s : State,
    (s.intervalTimer = some 0 → exec .intervalExpiry s = .next
        { s with beaconDue := true, intervalTimer := none, earlyRequest := false })
      ∧ (s.spacingTimer = some 0 → s.earlyRequest = true → exec .spacingExpiry s = .next
        { s with spacingTimer := none, beaconDue := true, intervalTimer := none, earlyRequest := false })
      ∧ (s.spacingTimer = some 0 → s.earlyRequest = false → exec .spacingExpiry s = .next
        { s with spacingTimer := none })
      ∧ (s.intervalTimer ≠ some 0 → exec .intervalExpiry s = .next s)
      ∧ (s.spacingTimer ≠ some 0 → exec .spacingExpiry s = .next s)

/-- A due beacon enters the urgent queue as soon as a place is free, a reserved place counting as taken: the heartbeat
is inverted, the BEACON carries the part as it stands with the holding set, which is then empty, and the interval
timer and the 10 ms spacing timer start. Without a free place it waits. The entry is a command of its own (assumptions
2, 16). -/
def Obligations.DueBeaconEntersAndEmptiesTheHoldingSet : Prop :=
  ∀ s : State,
    ((s.beaconDue = false ∨ 32 ≤ urgentTaken s) → exec .beaconEntry s = .next s)
      ∧ (s.beaconDue = true → urgentTaken s < 32 → ∃ t b, exec .beaconEntry s = .next t
        ∧ t =
          { s with
            urgent := s.urgent ++ [.beacon b], heartbeat := !s.heartbeat, holding := t.holding
            beaconDue := false, intervalTimer := some s.interval, spacingTimer := some 10 }
        ∧ (∀ i : LaneId, t.holding[i] = 0#9)
        ∧ b.heartbeat = !s.heartbeat ∧ b.startup = s.startup ∧ b.station = s.station
        ∧ b.laneStates = (List.finRange 16).map (fun i => (s.lane i).state)
        ∧ b.events = (List.finRange 16).map (fun i : LaneId => s.holding[i])
        ∧ b.fcsDrops = s.fcsDrops ∧ b.ingressDrops = s.ingressDrops ∧ b.urgentDrops = s.urgentDrops
        ∧ b.bulkDrops = s.bulkDrops
        ∧ b.openSteps = ((List.finRange 32).filter fun r => (s.record r).state = .opened).length
        ∧ b.closing = s.closing.length
        ∧ b.selected =
          match s.selection with
          | .verdicts => .verdicts ((List.finRange 16).map fun i =>
              ((s.lane i).board.verdict, (s.lane i).board.latch, (s.lane i).board.firstFailure.isSome))
          | .flags => .flags ((List.finRange 16).map fun i => ((s.lane i).flags, (s.lane i).dupCount))
          | .instruments => .instruments ((List.finRange 4).map fun k =>
              ((s.instrument k).enabled, (s.instrument k).holder, (s.instrument k).holdTimer.getD 0,
                (s.instrument k).waiting))
          | .steps => .steps (((List.finRange 32).filter fun r => (s.record r).state ≠ .free).map fun r =>
              ((s.record r).stepId.getD 0#16, (s.record r).state,
                if (s.record r).state = .opened then (s.record r).deadline.getD 0 else 0,
                ((List.finRange 16).filter fun i =>
                  (s.record r).members[i].any fun m => m.outcome == .pending).length,
                ((List.finRange 16).filter fun i =>
                  (s.record r).members[i].any fun m => m.outcome == .partialAnswer).length)))

/-! ### Judging arithmetic -/

/-- Rescaling (R106 to R108) and the mean (R117): a rescaled value stays in the signed 32-bit range; it is the exact
product where that fits, and else the end of the range on the product's side, CLAMPED; a quotient is a nearest whole
number, a tie going away from zero; and every mean is a nearest whole number, a tie going away from zero, and lies
between the values' minimum and maximum. -/
def Obligations.RescaledValuesAndMeansStayInRange : Prop :=
  (∀ v d : Int, -2147483648 ≤ v → v ≤ 2147483647 →
      (-2147483648 ≤ (rescale v d).value ∧ (rescale v d).value ≤ 2147483647)
        ∧ (0 ≤ d → (rescale v d).clamped = false → (rescale v d).value = v * 10 ^ d.toNat)
        ∧ (0 ≤ d → (rescale v d).clamped = true →
            (v * 10 ^ d.toNat < -2147483648 ∧ (rescale v d).value = -2147483648)
              ∨ (2147483647 < v * 10 ^ d.toNat ∧ (rescale v d).value = 2147483647))
        ∧ (d < 0 → (rescale v d).clamped = false
            ∧ 2 * (v - (rescale v d).value * 10 ^ (-d).toNat).natAbs ≤ 10 ^ (-d).toNat
            ∧ (2 * (v - (rescale v d).value * 10 ^ (-d).toNat).natAbs = 10 ^ (-d).toNat →
              v.natAbs < (rescale v d).value.natAbs * 10 ^ (-d).toNat)))
    ∧ ∀ (l : List Int) (st : Statistics), statistics l = some st →
        st.count = l.length ∧ st.minimum ∈ l ∧ st.maximum ∈ l
          ∧ (∀ v ∈ l, st.minimum ≤ v ∧ v ≤ st.maximum)
          ∧ st.minimum ≤ st.mean ∧ st.mean ≤ st.maximum
          ∧ 2 * (l.sum - st.mean * l.length).natAbs ≤ l.length
          ∧ (2 * (l.sum - st.mean * l.length).natAbs = l.length → l.sum.natAbs < st.mean.natAbs * l.length)

/-- What each limit entry gives, and what a RESULT's applied entries give together. RANGE, OUTSIDE and PRESENT entries
read their field: MISSING_FIELD, BAD_FIELD (R103), PASS for PRESENT (R104), CLAMPED (R109), or the verdict of the
rescaled value (R106), with guard bands formed exactly (R110, R111); a DIGEST entry reads the blob (R105). The result
verdict is NONE exactly when no entry applied, and otherwise the worst entry verdict (R101, R102). A FAIL, and nothing
else, has a first failure: the failing entry of lowest index with its reason (R112). A RESULT is critical when a
CRITICAL entry failed (R113), and its statistic value is the unclamped rescaled value of the statistic entry, where
that one applied (R115). -/
def Obligations.EntryVerdictsAndTheWorstOfThem : Prop :=
  (∀ (e : LimitEntry) (w low high g : Int), low = e.low.toInt → high = e.high.toInt → g = e.guard.toNat →
      judgeRange e w =
          { verdict :=
              if w < low ∨ high < w then .fail
              else if w < low + g ∨ high - g < w then .marginal else .pass
            reason := if w < low ∨ high < w then some .entry else none
            value := some w }
        ∧ judgeOutside e w =
          { verdict :=
              if low ≤ w ∧ w ≤ high then .fail
              else if (low - g ≤ w ∧ w < low) ∨ (high < w ∧ w ≤ high + g) then .marginal else .pass
            reason := if low ≤ w ∧ w ≤ high then some .entry else none
            value := some w })
    ∧ (∀ (r : ResultPayload) (e : LimitEntry),
        ((e.kind = 0x00#8 ∨ e.kind = 0x01#8 ∨ e.kind = 0x03#8) →
            match r.fields[e.fieldIndex.toNat]? with
            | none => judgeEntry r e = { verdict := .fail, reason := some .missingField, value := none }
            | some f =>
              if f.exponent < -12 ∨ 12 < f.exponent then
                judgeEntry r e = { verdict := .fail, reason := some .badField, value := none }
              else if e.kind = 0x03#8 then
                judgeEntry r e = { verdict := .pass, reason := none, value := none }
              else if (rescale f.value (f.exponent - e.exponent.toInt)).clamped = true then
                judgeEntry r e = { verdict := .fail, reason := some .clamped, value := none }
              else if e.kind = 0x00#8 then
                judgeEntry r e = judgeRange e (rescale f.value (f.exponent - e.exponent.toInt)).value
              else judgeEntry r e = judgeOutside e (rescale f.value (f.exponent - e.exponent.toInt)).value)
          ∧ (e.kind = 0x02#8 →
            judgeEntry r e =
              if r.blob = [] then { verdict := .fail, reason := some .missingField, value := none }
              else if digest r.blob = e.digest then { verdict := .pass, reason := none, value := none }
              else { verdict := .fail, reason := some .digest, value := none }))
    ∧ ∀ (limits : Vector LimitEntry 256) (group tag : Byte) (stat : Option LimitId) (r : ResultPayload)
        (applies : LimitId → Prop) (g : Findings),
        (∀ k, applies k ↔ limits[k].valid = true ∧ group ≠ 0x00#8 ∧ limits[k].group = group
          ∧ limits[k].tag = tag) →
        g = judge limits group tag stat r →
        (g.verdict = .none ↔ ∀ k, ¬applies k)
          ∧ (∀ k, applies k → worseOf (judgeEntry r limits[k]).verdict g.verdict = g.verdict)
          ∧ (g.verdict ≠ .none → ∃ k, applies k ∧ (judgeEntry r limits[k]).verdict = g.verdict)
          ∧ (g.firstFailure = none ↔ g.verdict ≠ .fail)
          ∧ (∀ k reason, g.firstFailure = some (reason, k) →
            applies k ∧ (judgeEntry r limits[k]).verdict = .fail
              ∧ (judgeEntry r limits[k]).reason = some reason
              ∧ ∀ k', applies k' → k' < k → (judgeEntry r limits[k']).verdict ≠ .fail)
          ∧ (g.critical = true ↔
            ∃ k, applies k ∧ limits[k].severity = 0x01#8 ∧ (judgeEntry r limits[k]).verdict = .fail)
          ∧ (∀ k, stat = some k → applies k → g.stat = (judgeEntry r limits[k]).value)
          ∧ ((stat = none ∨ ∃ k, stat = some k ∧ ¬applies k) → g.stat = none)

/-! ### Laws that every step keeps -/

/-- Every step keeps the queues, lists and counters within their sizes. And R192's law: a step inverts the heartbeat
bit exactly where a beacon enters the urgent queue, which then carries the bit after inversion; a step that resets the
part clears it; no other step changes it. -/
def Obligations.EveryStepKeepsCapacities : Prop :=
  (∀ s t : State, CapacityLaw s → step s = .next t → CapacityLaw t)
    ∧ ∀ s t : State, step s = .next t →
        (t.heartbeat = s.heartbeat
            ∧ (beaconBits t.urgent = beaconBits s.urgent ∨ t.urgent = s.urgent.tail))
          ∨ (t.heartbeat = !s.heartbeat ∧ beaconBits t.urgent = beaconBits s.urgent ++ [t.heartbeat])
          ∨ (t.heartbeat = false ∧ t.urgent = [] ∧ t.startup = true
            ∧ ∃ c rest, s.pending = c :: rest
              ∧ ((∃ straps seats, c = .powerOn straps seats) ∨ ∃ straps, c = .reset straps))

/-- R35's law: every step keeps the identities of BOUND lanes distinct. And R125's law, step by step: while a lane
keeps its identity, which a departure, power-on and a RESET take from it, no step but a CLEAR-VERDICT makes its
verdict better. -/
def Obligations.EveryStepKeepsIdentitiesDistinct : Prop :=
  (∀ s t : State, IdentityLaw s → step s = .next t → IdentityLaw t)
    ∧ ∀ (s t : State) (i : LaneId), step s = .next t → s.pending.head? ≠ some .clearVerdict →
        (s.lane i).identity ≠ none → (t.lane i).identity = (s.lane i).identity →
        worseOf (s.lane i).board.verdict (t.lane i).board.verdict = (t.lane i).board.verdict

/-- R33's and R141's laws with what each lane engine may hold: every step keeps them together. -/
def Obligations.EveryStepKeepsEnginesAndInstruments : Prop :=
  ∀ s t : State, StartupLaw s → EngineLaw s → ArbiterLaw s → step s = .next t →
    StartupLaw t ∧ EngineLaw t ∧ ArbiterLaw t

/-- R51's and R60's laws: every step keeps the step table, the free order and the closing list in agreement, and the
outstanding lists and the step table two views of one fact. And R87's law, step by step, resets aside: the IDs of the
steps OPEN or CLOSING after a step, with those of the SUMMARYs that entered bulk egress in it, are the IDs of the
steps OPEN or CLOSING before it, with the ID of a step taken in it. So no step is lost, and none is summarised twice.
-/
def Obligations.EveryStepKeepsOwingAndTableInAgreement : Prop :=
  ∀ s t : State, TableLaw s → OwingLaw s → step s = .next t → TableLaw t ∧ OwingLaw t
    ∧ ((∀ c rest, s.pending = c :: rest →
          (∀ straps seats, c ≠ .powerOn straps seats) ∧ ∀ straps, c ≠ .reset straps) →
        ∃ entered : List SummaryBody,
          (summariesOf t.bulk = summariesOf s.bulk ++ entered ∨ (t.bulk = s.bulk.tail ∧ entered = []))
            ∧ (carriedIds t ++ entered.map SummaryBody.stepId).Perm (carriedIds s ++ takenId s t))
end

