-- ==== Sys2Proof/Laws/State.lean ====
section
/-! SUPPORT. The small lemmas of the state: what reading a lane, a record or an instrument gives after one of them
changed, and the fields each shared update leaves as they stand, so that no later proof unfolds a record update. -/

namespace Sys2Proof.Machine

open Sys2Proof

/-! ### Reading after a change -/

@[simp] theorem State.lane_updLane_self (s : State) (i : LaneId) (f : Lane → Lane) :
    (s.updLane i f).lane i = f (s.lane i) := by simp [State.updLane, State.lane]

theorem State.lane_updLane_of_ne (s : State) {i j : LaneId} (f : Lane → Lane) (h : j ≠ i) :
    (s.updLane i f).lane j = s.lane j := by
  have : i.val ≠ j.val := fun e => h (Fin.ext e.symm)
  simp [State.updLane, State.lane, this]

theorem State.lane_updLane (s : State) (i j : LaneId) (f : Lane → Lane) :
    (s.updLane i f).lane j = if j = i then f (s.lane i) else s.lane j := by
  split
  · subst_vars; simp
  · exact s.lane_updLane_of_ne f ‹_›

@[simp] theorem State.record_updRecord_self (s : State) (r : RecordId) (f : StepRecord → StepRecord) :
    (s.updRecord r f).record r = f (s.record r) := by simp [State.updRecord, State.record]

theorem State.record_updRecord_of_ne (s : State) {r q : RecordId} (f : StepRecord → StepRecord) (h : q ≠ r) :
    (s.updRecord r f).record q = s.record q := by
  have : r.val ≠ q.val := fun e => h (Fin.ext e.symm)
  simp [State.updRecord, State.record, this]

theorem State.record_updRecord (s : State) (r q : RecordId) (f : StepRecord → StepRecord) :
    (s.updRecord r f).record q = if q = r then f (s.record r) else s.record q := by
  split
  · subst_vars; simp
  · exact s.record_updRecord_of_ne f ‹_›

@[simp] theorem State.instrument_updInstrument_self (s : State) (k : InstrumentId)
    (f : Instrument → Instrument) : (s.updInstrument k f).instrument k = f (s.instrument k) := by
  simp [State.updInstrument, State.instrument]

theorem State.instrument_updInstrument_of_ne (s : State) {k m : InstrumentId} (f : Instrument → Instrument)
    (h : m ≠ k) : (s.updInstrument k f).instrument m = s.instrument m := by
  have : k.val ≠ m.val := fun e => h (Fin.ext e.symm)
  simp [State.updInstrument, State.instrument, this]

theorem State.instrument_updInstrument (s : State) (k m : InstrumentId) (f : Instrument → Instrument) :
    (s.updInstrument k f).instrument m = if m = k then f (s.instrument k) else s.instrument m := by
  split
  · subst_vars; simp
  · exact s.instrument_updInstrument_of_ne f ‹_›

@[simp] theorem State.record_updLane (s : State) (i : LaneId) (f : Lane → Lane) (r : RecordId) :
    (s.updLane i f).record r = s.record r := rfl

@[simp] theorem State.instrument_updLane (s : State) (i : LaneId) (f : Lane → Lane) (k : InstrumentId) :
    (s.updLane i f).instrument k = s.instrument k := rfl

@[simp] theorem State.lane_updRecord (s : State) (r : RecordId) (f : StepRecord → StepRecord) (i : LaneId) :
    (s.updRecord r f).lane i = s.lane i := rfl

@[simp] theorem State.instrument_updRecord (s : State) (r : RecordId) (f : StepRecord → StepRecord)
    (k : InstrumentId) : (s.updRecord r f).instrument k = s.instrument k := rfl

@[simp] theorem State.lane_updInstrument (s : State) (k : InstrumentId) (f : Instrument → Instrument)
    (i : LaneId) : (s.updInstrument k f).lane i = s.lane i := rfl

@[simp] theorem State.record_updInstrument (s : State) (k : InstrumentId) (f : Instrument → Instrument)
    (r : RecordId) : (s.updInstrument k f).record r = s.record r := rfl

/-! ### The fields `updLane` leaves as they stand -/

section

variable (s : State) (i : LaneId) (f : Lane → Lane)

@[simp] theorem State.updLane_pointer : (s.updLane i f).pointer = s.pointer := rfl
@[simp] theorem State.updLane_records : (s.updLane i f).records = s.records := rfl
@[simp] theorem State.updLane_freeOrder : (s.updLane i f).freeOrder = s.freeOrder := rfl
@[simp] theorem State.updLane_groups : (s.updLane i f).groups = s.groups := rfl
@[simp] theorem State.updLane_closing : (s.updLane i f).closing = s.closing := rfl
@[simp] theorem State.updLane_limits : (s.updLane i f).limits = s.limits := rfl
@[simp] theorem State.updLane_instruments : (s.updLane i f).instruments = s.instruments := rfl
@[simp] theorem State.updLane_station : (s.updLane i f).station = s.station := rfl
@[simp] theorem State.updLane_hostAddress : (s.updLane i f).hostAddress = s.hostAddress := rfl
@[simp] theorem State.updLane_linkUp : (s.updLane i f).linkUp = s.linkUp := rfl
@[simp] theorem State.updLane_ingress : (s.updLane i f).ingress = s.ingress := rfl
@[simp] theorem State.updLane_urgent : (s.updLane i f).urgent = s.urgent := rfl
@[simp] theorem State.updLane_answerReserved : (s.updLane i f).answerReserved = s.answerReserved := rfl
@[simp] theorem State.updLane_bulk : (s.updLane i f).bulk = s.bulk := rfl
@[simp] theorem State.updLane_bulkHold : (s.updLane i f).bulkHold = s.bulkHold := rfl
@[simp] theorem State.updLane_fcsDrops : (s.updLane i f).fcsDrops = s.fcsDrops := rfl
@[simp] theorem State.updLane_ingressDrops : (s.updLane i f).ingressDrops = s.ingressDrops := rfl
@[simp] theorem State.updLane_urgentDrops : (s.updLane i f).urgentDrops = s.urgentDrops := rfl
@[simp] theorem State.updLane_bulkDrops : (s.updLane i f).bulkDrops = s.bulkDrops := rfl
@[simp] theorem State.updLane_uplinkLine : (s.updLane i f).uplinkLine = s.uplinkLine := rfl
@[simp] theorem State.updLane_startup : (s.updLane i f).startup = s.startup := rfl
@[simp] theorem State.updLane_currentOrder : (s.updLane i f).currentOrder = s.currentOrder := rfl
@[simp] theorem State.updLane_heartbeat : (s.updLane i f).heartbeat = s.heartbeat := rfl
@[simp] theorem State.updLane_holding : (s.updLane i f).holding = s.holding := rfl
@[simp] theorem State.updLane_noticeMask : (s.updLane i f).noticeMask = s.noticeMask := rfl
@[simp] theorem State.updLane_selection : (s.updLane i f).selection = s.selection := rfl
@[simp] theorem State.updLane_interval : (s.updLane i f).interval = s.interval := rfl
@[simp] theorem State.updLane_intervalTimer : (s.updLane i f).intervalTimer = s.intervalTimer := rfl
@[simp] theorem State.updLane_spacingTimer : (s.updLane i f).spacingTimer = s.spacingTimer := rfl
@[simp] theorem State.updLane_earlyRequest : (s.updLane i f).earlyRequest = s.earlyRequest := rfl
@[simp] theorem State.updLane_beaconDue : (s.updLane i f).beaconDue = s.beaconDue := rfl
@[simp] theorem State.updLane_choices : (s.updLane i f).choices = s.choices := rfl
@[simp] theorem State.updLane_pending : (s.updLane i f).pending = s.pending := rfl

end

/-! ### The fields `updRecord` leaves as they stand -/

section

variable (s : State) (r : RecordId) (f : StepRecord → StepRecord)

@[simp] theorem State.updRecord_lanes : (s.updRecord r f).lanes = s.lanes := rfl
@[simp] theorem State.updRecord_pointer : (s.updRecord r f).pointer = s.pointer := rfl
@[simp] theorem State.updRecord_freeOrder : (s.updRecord r f).freeOrder = s.freeOrder := rfl
@[simp] theorem State.updRecord_groups : (s.updRecord r f).groups = s.groups := rfl
@[simp] theorem State.updRecord_closing : (s.updRecord r f).closing = s.closing := rfl
@[simp] theorem State.updRecord_limits : (s.updRecord r f).limits = s.limits := rfl
@[simp] theorem State.updRecord_instruments : (s.updRecord r f).instruments = s.instruments := rfl
@[simp] theorem State.updRecord_station : (s.updRecord r f).station = s.station := rfl
@[simp] theorem State.updRecord_hostAddress : (s.updRecord r f).hostAddress = s.hostAddress := rfl
@[simp] theorem State.updRecord_linkUp : (s.updRecord r f).linkUp = s.linkUp := rfl
@[simp] theorem State.updRecord_ingress : (s.updRecord r f).ingress = s.ingress := rfl
@[simp] theorem State.updRecord_urgent : (s.updRecord r f).urgent = s.urgent := rfl
@[simp] theorem State.updRecord_answerReserved : (s.updRecord r f).answerReserved = s.answerReserved := rfl
@[simp] theorem State.updRecord_bulk : (s.updRecord r f).bulk = s.bulk := rfl
@[simp] theorem State.updRecord_bulkHold : (s.updRecord r f).bulkHold = s.bulkHold := rfl
@[simp] theorem State.updRecord_fcsDrops : (s.updRecord r f).fcsDrops = s.fcsDrops := rfl
@[simp] theorem State.updRecord_ingressDrops : (s.updRecord r f).ingressDrops = s.ingressDrops := rfl
@[simp] theorem State.updRecord_urgentDrops : (s.updRecord r f).urgentDrops = s.urgentDrops := rfl
@[simp] theorem State.updRecord_bulkDrops : (s.updRecord r f).bulkDrops = s.bulkDrops := rfl
@[simp] theorem State.updRecord_uplinkLine : (s.updRecord r f).uplinkLine = s.uplinkLine := rfl
@[simp] theorem State.updRecord_startup : (s.updRecord r f).startup = s.startup := rfl
@[simp] theorem State.updRecord_currentOrder : (s.updRecord r f).currentOrder = s.currentOrder := rfl
@[simp] theorem State.updRecord_heartbeat : (s.updRecord r f).heartbeat = s.heartbeat := rfl
@[simp] theorem State.updRecord_holding : (s.updRecord r f).holding = s.holding := rfl
@[simp] theorem State.updRecord_noticeMask : (s.updRecord r f).noticeMask = s.noticeMask := rfl
@[simp] theorem State.updRecord_selection : (s.updRecord r f).selection = s.selection := rfl
@[simp] theorem State.updRecord_interval : (s.updRecord r f).interval = s.interval := rfl
@[simp] theorem State.updRecord_intervalTimer : (s.updRecord r f).intervalTimer = s.intervalTimer := rfl
@[simp] theorem State.updRecord_spacingTimer : (s.updRecord r f).spacingTimer = s.spacingTimer := rfl
@[simp] theorem State.updRecord_earlyRequest : (s.updRecord r f).earlyRequest = s.earlyRequest := rfl
@[simp] theorem State.updRecord_beaconDue : (s.updRecord r f).beaconDue = s.beaconDue := rfl
@[simp] theorem State.updRecord_choices : (s.updRecord r f).choices = s.choices := rfl
@[simp] theorem State.updRecord_pending : (s.updRecord r f).pending = s.pending := rfl

end

/-! ### The fields `updInstrument` leaves as they stand -/

section

variable (s : State) (k : InstrumentId) (f : Instrument → Instrument)

@[simp] theorem State.updInstrument_lanes : (s.updInstrument k f).lanes = s.lanes := rfl
@[simp] theorem State.updInstrument_pointer : (s.updInstrument k f).pointer = s.pointer := rfl
@[simp] theorem State.updInstrument_records : (s.updInstrument k f).records = s.records := rfl
@[simp] theorem State.updInstrument_freeOrder : (s.updInstrument k f).freeOrder = s.freeOrder := rfl
@[simp] theorem State.updInstrument_groups : (s.updInstrument k f).groups = s.groups := rfl
@[simp] theorem State.updInstrument_closing : (s.updInstrument k f).closing = s.closing := rfl
@[simp] theorem State.updInstrument_limits : (s.updInstrument k f).limits = s.limits := rfl
@[simp] theorem State.updInstrument_station : (s.updInstrument k f).station = s.station := rfl
@[simp] theorem State.updInstrument_hostAddress : (s.updInstrument k f).hostAddress = s.hostAddress := rfl
@[simp] theorem State.updInstrument_linkUp : (s.updInstrument k f).linkUp = s.linkUp := rfl
@[simp] theorem State.updInstrument_ingress : (s.updInstrument k f).ingress = s.ingress := rfl
@[simp] theorem State.updInstrument_urgent : (s.updInstrument k f).urgent = s.urgent := rfl
@[simp] theorem State.updInstrument_answerReserved : (s.updInstrument k f).answerReserved = s.answerReserved := rfl
@[simp] theorem State.updInstrument_bulk : (s.updInstrument k f).bulk = s.bulk := rfl
@[simp] theorem State.updInstrument_bulkHold : (s.updInstrument k f).bulkHold = s.bulkHold := rfl
@[simp] theorem State.updInstrument_fcsDrops : (s.updInstrument k f).fcsDrops = s.fcsDrops := rfl
@[simp] theorem State.updInstrument_ingressDrops : (s.updInstrument k f).ingressDrops = s.ingressDrops := rfl
@[simp] theorem State.updInstrument_urgentDrops : (s.updInstrument k f).urgentDrops = s.urgentDrops := rfl
@[simp] theorem State.updInstrument_bulkDrops : (s.updInstrument k f).bulkDrops = s.bulkDrops := rfl
@[simp] theorem State.updInstrument_uplinkLine : (s.updInstrument k f).uplinkLine = s.uplinkLine := rfl
@[simp] theorem State.updInstrument_startup : (s.updInstrument k f).startup = s.startup := rfl
@[simp] theorem State.updInstrument_currentOrder : (s.updInstrument k f).currentOrder = s.currentOrder := rfl
@[simp] theorem State.updInstrument_heartbeat : (s.updInstrument k f).heartbeat = s.heartbeat := rfl
@[simp] theorem State.updInstrument_holding : (s.updInstrument k f).holding = s.holding := rfl
@[simp] theorem State.updInstrument_noticeMask : (s.updInstrument k f).noticeMask = s.noticeMask := rfl
@[simp] theorem State.updInstrument_selection : (s.updInstrument k f).selection = s.selection := rfl
@[simp] theorem State.updInstrument_interval : (s.updInstrument k f).interval = s.interval := rfl
@[simp] theorem State.updInstrument_intervalTimer : (s.updInstrument k f).intervalTimer = s.intervalTimer := rfl
@[simp] theorem State.updInstrument_spacingTimer : (s.updInstrument k f).spacingTimer = s.spacingTimer := rfl
@[simp] theorem State.updInstrument_earlyRequest : (s.updInstrument k f).earlyRequest = s.earlyRequest := rfl
@[simp] theorem State.updInstrument_beaconDue : (s.updInstrument k f).beaconDue = s.beaconDue := rfl
@[simp] theorem State.updInstrument_choices : (s.updInstrument k f).choices = s.choices := rfl
@[simp] theorem State.updInstrument_pending : (s.updInstrument k f).pending = s.pending := rfl

end

/-! ### The fields `setFlag` leaves as they stand -/

section

variable (s : State) (i : LaneId) (f : LaneFlag)

@[simp] theorem State.setFlag_pointer : (s.setFlag i f).pointer = s.pointer := rfl
@[simp] theorem State.setFlag_records : (s.setFlag i f).records = s.records := rfl
@[simp] theorem State.setFlag_freeOrder : (s.setFlag i f).freeOrder = s.freeOrder := rfl
@[simp] theorem State.setFlag_groups : (s.setFlag i f).groups = s.groups := rfl
@[simp] theorem State.setFlag_closing : (s.setFlag i f).closing = s.closing := rfl
@[simp] theorem State.setFlag_limits : (s.setFlag i f).limits = s.limits := rfl
@[simp] theorem State.setFlag_instruments : (s.setFlag i f).instruments = s.instruments := rfl
@[simp] theorem State.setFlag_station : (s.setFlag i f).station = s.station := rfl
@[simp] theorem State.setFlag_hostAddress : (s.setFlag i f).hostAddress = s.hostAddress := rfl
@[simp] theorem State.setFlag_linkUp : (s.setFlag i f).linkUp = s.linkUp := rfl
@[simp] theorem State.setFlag_ingress : (s.setFlag i f).ingress = s.ingress := rfl
@[simp] theorem State.setFlag_urgent : (s.setFlag i f).urgent = s.urgent := rfl
@[simp] theorem State.setFlag_answerReserved : (s.setFlag i f).answerReserved = s.answerReserved := rfl
@[simp] theorem State.setFlag_bulk : (s.setFlag i f).bulk = s.bulk := rfl
@[simp] theorem State.setFlag_bulkHold : (s.setFlag i f).bulkHold = s.bulkHold := rfl
@[simp] theorem State.setFlag_fcsDrops : (s.setFlag i f).fcsDrops = s.fcsDrops := rfl
@[simp] theorem State.setFlag_ingressDrops : (s.setFlag i f).ingressDrops = s.ingressDrops := rfl
@[simp] theorem State.setFlag_urgentDrops : (s.setFlag i f).urgentDrops = s.urgentDrops := rfl
@[simp] theorem State.setFlag_bulkDrops : (s.setFlag i f).bulkDrops = s.bulkDrops := rfl
@[simp] theorem State.setFlag_uplinkLine : (s.setFlag i f).uplinkLine = s.uplinkLine := rfl
@[simp] theorem State.setFlag_startup : (s.setFlag i f).startup = s.startup := rfl
@[simp] theorem State.setFlag_currentOrder : (s.setFlag i f).currentOrder = s.currentOrder := rfl
@[simp] theorem State.setFlag_heartbeat : (s.setFlag i f).heartbeat = s.heartbeat := rfl
@[simp] theorem State.setFlag_holding : (s.setFlag i f).holding = s.holding := rfl
@[simp] theorem State.setFlag_noticeMask : (s.setFlag i f).noticeMask = s.noticeMask := rfl
@[simp] theorem State.setFlag_selection : (s.setFlag i f).selection = s.selection := rfl
@[simp] theorem State.setFlag_interval : (s.setFlag i f).interval = s.interval := rfl
@[simp] theorem State.setFlag_intervalTimer : (s.setFlag i f).intervalTimer = s.intervalTimer := rfl
@[simp] theorem State.setFlag_spacingTimer : (s.setFlag i f).spacingTimer = s.spacingTimer := rfl
@[simp] theorem State.setFlag_earlyRequest : (s.setFlag i f).earlyRequest = s.earlyRequest := rfl
@[simp] theorem State.setFlag_beaconDue : (s.setFlag i f).beaconDue = s.beaconDue := rfl
@[simp] theorem State.setFlag_choices : (s.setFlag i f).choices = s.choices := rfl
@[simp] theorem State.setFlag_pending : (s.setFlag i f).pending = s.pending := rfl

end

/-! ### The fields `placeControl` leaves as they stand -/

section

variable (s : State) (i : LaneId) (c : ControlKind) (k : InstrumentId)

@[simp] theorem State.placeControl_pointer : (s.placeControl i c k).pointer = s.pointer := rfl
@[simp] theorem State.placeControl_records : (s.placeControl i c k).records = s.records := rfl
@[simp] theorem State.placeControl_freeOrder : (s.placeControl i c k).freeOrder = s.freeOrder := rfl
@[simp] theorem State.placeControl_groups : (s.placeControl i c k).groups = s.groups := rfl
@[simp] theorem State.placeControl_closing : (s.placeControl i c k).closing = s.closing := rfl
@[simp] theorem State.placeControl_limits : (s.placeControl i c k).limits = s.limits := rfl
@[simp] theorem State.placeControl_instruments : (s.placeControl i c k).instruments = s.instruments := rfl
@[simp] theorem State.placeControl_station : (s.placeControl i c k).station = s.station := rfl
@[simp] theorem State.placeControl_hostAddress : (s.placeControl i c k).hostAddress = s.hostAddress := rfl
@[simp] theorem State.placeControl_linkUp : (s.placeControl i c k).linkUp = s.linkUp := rfl
@[simp] theorem State.placeControl_ingress : (s.placeControl i c k).ingress = s.ingress := rfl
@[simp] theorem State.placeControl_urgent : (s.placeControl i c k).urgent = s.urgent := rfl
@[simp] theorem State.placeControl_answerReserved : (s.placeControl i c k).answerReserved = s.answerReserved := rfl
@[simp] theorem State.placeControl_bulk : (s.placeControl i c k).bulk = s.bulk := rfl
@[simp] theorem State.placeControl_bulkHold : (s.placeControl i c k).bulkHold = s.bulkHold := rfl
@[simp] theorem State.placeControl_fcsDrops : (s.placeControl i c k).fcsDrops = s.fcsDrops := rfl
@[simp] theorem State.placeControl_ingressDrops : (s.placeControl i c k).ingressDrops = s.ingressDrops := rfl
@[simp] theorem State.placeControl_urgentDrops : (s.placeControl i c k).urgentDrops = s.urgentDrops := rfl
@[simp] theorem State.placeControl_bulkDrops : (s.placeControl i c k).bulkDrops = s.bulkDrops := rfl
@[simp] theorem State.placeControl_uplinkLine : (s.placeControl i c k).uplinkLine = s.uplinkLine := rfl
@[simp] theorem State.placeControl_startup : (s.placeControl i c k).startup = s.startup := rfl
@[simp] theorem State.placeControl_currentOrder : (s.placeControl i c k).currentOrder = s.currentOrder := rfl
@[simp] theorem State.placeControl_heartbeat : (s.placeControl i c k).heartbeat = s.heartbeat := rfl
@[simp] theorem State.placeControl_holding : (s.placeControl i c k).holding = s.holding := rfl
@[simp] theorem State.placeControl_noticeMask : (s.placeControl i c k).noticeMask = s.noticeMask := rfl
@[simp] theorem State.placeControl_selection : (s.placeControl i c k).selection = s.selection := rfl
@[simp] theorem State.placeControl_interval : (s.placeControl i c k).interval = s.interval := rfl
@[simp] theorem State.placeControl_intervalTimer : (s.placeControl i c k).intervalTimer = s.intervalTimer := rfl
@[simp] theorem State.placeControl_spacingTimer : (s.placeControl i c k).spacingTimer = s.spacingTimer := rfl
@[simp] theorem State.placeControl_earlyRequest : (s.placeControl i c k).earlyRequest = s.earlyRequest := rfl
@[simp] theorem State.placeControl_beaconDue : (s.placeControl i c k).beaconDue = s.beaconDue := rfl
@[simp] theorem State.placeControl_choices : (s.placeControl i c k).choices = s.choices := rfl
@[simp] theorem State.placeControl_pending : (s.placeControl i c k).pending = s.pending := rfl

end

end Sys2Proof.Machine
end

