-- ==== Sys2Proof/Laws/Ops.lean ====
section
/-! SUPPORT. One lemma for each shared operation that says what it can do: the fields it may change (its frame), and
the cases it has. Provers cite these instead of unfolding the operations. -/

namespace Sys2Proof.Machine

open Sys2Proof

/-! ### Frames: which fields an operation may change -/

/-- Only the beacon's events and what they ask for changed. -/
def BeaconFrame (s t : State) : Prop :=
  t = { s with
    holding := t.holding, beaconDue := t.beaconDue, intervalTimer := t.intervalTimer
    earlyRequest := t.earlyRequest }

/-- Only lanes, the step table and bulk egress changed. -/
def StepFrame (s t : State) : Prop :=
  t = { s with
    lanes := t.lanes, records := t.records, freeOrder := t.freeOrder, closing := t.closing, bulk := t.bulk }

/-- Only lanes, instruments, urgent egress and the beacon's events changed. -/
def ArbiterFrame (s t : State) : Prop :=
  t = { s with
    lanes := t.lanes, instruments := t.instruments, urgent := t.urgent, urgentDrops := t.urgentDrops
    holding := t.holding, beaconDue := t.beaconDue, intervalTimer := t.intervalTimer
    earlyRequest := t.earlyRequest }

/-- Only what a lane event can reach changed: lanes, the step table, instruments, both egress queues and the
beacon's events. -/
def RosterFrame (s t : State) : Prop :=
  t = { s with
    lanes := t.lanes, records := t.records, freeOrder := t.freeOrder, closing := t.closing, bulk := t.bulk
    instruments := t.instruments, urgent := t.urgent, urgentDrops := t.urgentDrops
    holding := t.holding, beaconDue := t.beaconDue, intervalTimer := t.intervalTimer
    earlyRequest := t.earlyRequest }

theorem StepFrame.refl (s : State) : StepFrame s s := rfl
theorem ArbiterFrame.refl (s : State) : ArbiterFrame s s := rfl
theorem RosterFrame.refl (s : State) : RosterFrame s s := rfl

theorem StepFrame.trans {s t u : State} (h : StepFrame s t) (g : StepFrame t u) : StepFrame s u := by
  unfold StepFrame at *; rw [g, h]

theorem ArbiterFrame.trans {s t u : State} (h : ArbiterFrame s t) (g : ArbiterFrame t u) :
    ArbiterFrame s u := by unfold ArbiterFrame at *; rw [g, h]

theorem RosterFrame.trans {s t u : State} (h : RosterFrame s t) (g : RosterFrame t u) : RosterFrame s u := by
  unfold RosterFrame at *; rw [g, h]

theorem StepFrame.roster {s t : State} (h : StepFrame s t) : RosterFrame s t := by
  unfold StepFrame at h; unfold RosterFrame; rw [h]

theorem ArbiterFrame.roster {s t : State} (h : ArbiterFrame s t) : RosterFrame s t := by
  unfold ArbiterFrame at h; unfold RosterFrame; rw [h]

theorem BeaconFrame.arbiter {s t : State} (h : BeaconFrame s t) : ArbiterFrame s t := by
  unfold BeaconFrame at h; unfold ArbiterFrame; rw [h]

theorem BeaconFrame.roster {s t : State} (h : BeaconFrame s t) : RosterFrame s t := h.arbiter.roster

/-- A fold of operations that each keep a reflexive and transitive relation keeps it. -/
theorem foldl_keeps {α : Type} {R : State → State → Prop} (refl : ∀ s, R s s)
    (trans : ∀ {s t u}, R s t → R t u → R s u) {f : State → α → State} (h : ∀ s a, R s (f s a)) (l : List α)
    (s : State) : R s (l.foldl f s) := by
  induction l generalizing s with
  | nil => exact refl s
  | cons a l ih => exact trans (h s a) (ih (f s a))

/-! ### Beacon and egress -/

theorem requestEarly_frame (s : State) : BeaconFrame s s.requestEarly := by
  unfold State.requestEarly; split
  · rfl
  · split <;> rfl

/-- What an early request does: nothing while a beacon is due, a due beacon while the spacing timer is stopped, and
else the request is noted (R189). -/
theorem requestEarly_cases (s : State) :
    (s.beaconDue = true ∧ s.requestEarly = s)
      ∨ (s.beaconDue = false ∧ s.spacingTimer = none
        ∧ s.requestEarly = { s with beaconDue := true, intervalTimer := none, earlyRequest := false })
      ∨ (s.beaconDue = false ∧ s.spacingTimer ≠ none ∧ s.requestEarly = { s with earlyRequest := true }) := by
  unfold State.requestEarly
  cases hd : s.beaconDue
  · cases hs : s.spacingTimer
    · right; left; simp [State.beaconFallsDue, hs]
    · right; right; simp
  · left; simp

theorem recordEvent_frame (s : State) (i : LaneId) (k : EventKind) : BeaconFrame s (s.recordEvent i k) := by
  unfold State.recordEvent; dsimp only; split
  · have h := requestEarly_frame { s with holding := s.holding.set i (withEvent s.holding[i] k) }
    unfold BeaconFrame at *; rw [h]
  · rfl

/-- An event joins the holding set (R187). -/
theorem recordEvent_holding (s : State) (i : LaneId) (k : EventKind) :
    (s.recordEvent i k).holding = s.holding.set i (withEvent s.holding[i] k) := by
  unfold State.recordEvent State.requestEarly State.beaconFallsDue; dsimp only
  split <;> (try split) <;> (try split) <;> rfl

@[simp] theorem recordEvent_lane (s : State) (i j : LaneId) (k : EventKind) :
    (s.recordEvent i k).lane j = s.lane j := by
  rw [State.lane, recordEvent_frame s i k]; rfl

@[simp] theorem recordEvent_record (s : State) (i : LaneId) (k : EventKind) (r : RecordId) :
    (s.recordEvent i k).record r = s.record r := by
  rw [State.record, recordEvent_frame s i k]; rfl

@[simp] theorem recordEvent_instrument (s : State) (i : LaneId) (k : EventKind) (n : InstrumentId) :
    (s.recordEvent i k).instrument n = s.instrument n := by
  rw [State.instrument, recordEvent_frame s i k]; rfl

/-- An offered DEPARTURE or INSTRUMENT report enters the tail or is dropped and counted (R165). -/
theorem offerUrgent_cases (s : State) (r : UrgentReport) :
    (urgentTaken s < 32 ∧ s.offerUrgent r = { s with urgent := s.urgent ++ [r] })
      ∨ (32 ≤ urgentTaken s
        ∧ s.offerUrgent r = { s with urgentDrops := satIncr Config.counterMax s.urgentDrops }) := by
  unfold State.offerUrgent State.urgentFull urgentTaken Config.urgentSize
  rcases Nat.lt_or_ge (s.urgent.length + (if s.answerReserved then 1 else 0)) 32 with h | h
  · exact .inl ⟨h, by simp [Nat.not_le.2 h]⟩
  · exact .inr ⟨h, by simp [h]⟩

theorem offerUrgent_frame (s : State) (r : UrgentReport) : ArbiterFrame s (s.offerUrgent r) := by
  rcases offerUrgent_cases s r with ⟨-, h⟩ | ⟨-, h⟩ <;> rw [ArbiterFrame, h]

@[simp] theorem offerUrgent_lane (s : State) (r : UrgentReport) (j : LaneId) :
    (s.offerUrgent r).lane j = s.lane j := by
  rcases offerUrgent_cases s r with ⟨-, h⟩ | ⟨-, h⟩ <;> rw [h] <;> rfl

@[simp] theorem offerUrgent_record (s : State) (r : UrgentReport) (q : RecordId) :
    (s.offerUrgent r).record q = s.record q := by
  rcases offerUrgent_cases s r with ⟨-, h⟩ | ⟨-, h⟩ <;> rw [h] <;> rfl

@[simp] theorem offerUrgent_instrument (s : State) (r : UrgentReport) (k : InstrumentId) :
    (s.offerUrgent r).instrument k = s.instrument k := by
  rcases offerUrgent_cases s r with ⟨-, h⟩ | ⟨-, h⟩ <;> rw [h] <;> rfl

/-- An offered COPY or TEXT report enters the tail or is dropped and counted (R166). -/
theorem offerBulk_cases (s : State) (r : BulkReport) :
    (s.bulk.length < 64 ∧ s.closing = [] ∧ s.offerBulk r = { s with bulk := s.bulk ++ [r] })
      ∨ (¬(s.bulk.length < 64 ∧ s.closing = [])
        ∧ s.offerBulk r = { s with bulkDrops := satIncr Config.counterMax s.bulkDrops }) := by
  unfold State.offerBulk State.bulkRoom Config.bulkSize
  by_cases h : s.bulk.length < 64 ∧ s.closing = []
  · exact .inl ⟨h.1, h.2, by simp [h.1, h.2]⟩
  · refine .inr ⟨h, if_neg ?_⟩
    simpa using h

/-! ### The step unit -/

/-- The head of the closing list enters bulk egress, or nothing happens (R90). -/
theorem enterSummary_cases (s : State) :
    (∃ r rest, s.closing = r :: rest ∧ s.bulk.length < 64
        ∧ s.enterSummary =
          { s.updRecord r (fun n => { n with state := .free }) with
            bulk := s.bulk ++ [.summary (s.record r).summary]
            closing := rest
            freeOrder := s.freeOrder ++ [r] })
      ∨ ((s.closing = [] ∨ 64 ≤ s.bulk.length) ∧ s.enterSummary = s) := by
  unfold State.enterSummary
  split
  · exact .inr ⟨.inl ‹_›, rfl⟩
  · rename_i r rest h
    unfold State.bulkRoom Config.bulkSize
    by_cases hb : s.bulk.length < 64
    · exact .inl ⟨r, rest, h, hb, by simp [hb]⟩
    · exact .inr ⟨.inr (by omega), by simp [hb]⟩

theorem enterSummary_frame (s : State) : StepFrame s s.enterSummary := by
  rcases enterSummary_cases s with ⟨r, rest, -, -, h⟩ | ⟨-, h⟩ <;> rw [StepFrame, h]; rfl

@[simp] theorem enterSummary_lane (s : State) (j : LaneId) : s.enterSummary.lane j = s.lane j := by
  rcases enterSummary_cases s with ⟨r, rest, -, -, h⟩ | ⟨-, h⟩ <;> rw [h]; rfl

theorem closeStep_frame (s : State) (r : RecordId) (c : CloseCause) : StepFrame s (s.closeStep r c) := by
  unfold State.closeStep; dsimp only; split
  · exact StepFrame.trans (by rfl) (enterSummary_frame _)
  · rfl

@[simp] theorem closeStep_lane (s : State) (r : RecordId) (c : CloseCause) (j : LaneId) :
    (s.closeStep r c).lane j = s.lane j := by
  unfold State.closeStep; dsimp only; split
  · rw [enterSummary_lane]; rfl
  · rfl

/-- What closing leaves of a record (R67): no timer, the cause, and CLOSING, or FREE where its summary entered at
once. -/
theorem closeStep_record_self (s : State) (r : RecordId) (c : CloseCause) :
    (s.closeStep r c).record r =
      { s.record r with
        deadline := none, cause := some c
        state := if s.closing = [] ∧ s.bulk.length < 64 then .free else .closing } := by
  unfold State.closeStep State.enterSummary State.bulkRoom Config.bulkSize; dsimp only
  cases hc : s.closing with
  | nil =>
    by_cases hb : s.bulk.length < 64 <;> simp [hb, State.record, State.updRecord]
  | cons a l => simp [State.record, State.updRecord]

theorem closeStep_record_of_ne (s : State) {r q : RecordId} (c : CloseCause) (h : q ≠ r) :
    (s.closeStep r c).record q = s.record q := by
  have hv : r.val ≠ q.val := fun e => h (Fin.ext e.symm)
  unfold State.closeStep State.enterSummary State.bulkRoom Config.bulkSize; dsimp only
  cases hc : s.closing with
  | nil => by_cases hb : s.bulk.length < 64 <;> simp [hb, State.record, State.updRecord, hv]
  | cons a l => simp [State.record, State.updRecord, hv]

/-- Where a closed record goes (R67, R90). -/
theorem closeStep_lists (s : State) (r : RecordId) (c : CloseCause) :
    if s.closing = [] ∧ s.bulk.length < 64 then
      (s.closeStep r c).closing = [] ∧ (s.closeStep r c).freeOrder = s.freeOrder ++ [r]
        ∧ (s.closeStep r c).bulk = s.bulk ++ [.summary ((s.closeStep r c).record r).summary]
    else
      (s.closeStep r c).closing = s.closing ++ [r] ∧ (s.closeStep r c).freeOrder = s.freeOrder
        ∧ (s.closeStep r c).bulk = s.bulk := by
  unfold State.closeStep State.enterSummary State.bulkRoom Config.bulkSize; dsimp only
  cases hc : s.closing with
  | nil =>
    by_cases hb : s.bulk.length < 64 <;>
      simp [hb, State.record, State.updRecord, StepRecord.summary, StepRecord.memberList]
  | cons a l => simp [State.updRecord]

theorem closingCheck_frame (s : State) (r : RecordId) : StepFrame s (s.closingCheck r) := by
  unfold State.closingCheck; split
  · exact closeStep_frame s r _
  · rfl

@[simp] theorem closingCheck_lane (s : State) (r : RecordId) (j : LaneId) :
    (s.closingCheck r).lane j = s.lane j := by
  unfold State.closingCheck; split
  · exact closeStep_lane s r _ j
  · rfl

theorem closingCheck_record_of_ne (s : State) {r q : RecordId} (h : q ≠ r) :
    (s.closingCheck r).record q = s.record q := by
  unfold State.closingCheck; split
  · exact closeStep_record_of_ne s _ h
  · rfl

theorem setOutcome_frame (s : State) (r : RecordId) (i : LaneId) (o : MemberOutcome) :
    StepFrame s (s.setOutcome r i o) := by unfold State.setOutcome; split <;> rfl

@[simp] theorem setOutcome_lane (s : State) (r : RecordId) (i j : LaneId) (o : MemberOutcome) :
    (s.setOutcome r i o).lane j = s.lane j := by unfold State.setOutcome; split <;> rfl

theorem setOutcome_record_of_ne (s : State) {r q : RecordId} (i : LaneId) (o : MemberOutcome) (h : q ≠ r) :
    (s.setOutcome r i o).record q = s.record q := by
  unfold State.setOutcome; split
  · exact s.record_updRecord_of_ne _ h
  · rfl

theorem loseEntry_frame (i : LaneId) (o : MemberOutcome) (s : State) (e : OutEntry) :
    StepFrame s (State.loseEntry i o s e) :=
  StepFrame.trans (setOutcome_frame s e.record i o) (StepFrame.trans (by rfl) (closingCheck_frame _ _))

/-- A lane loss of one entry takes that entry from the lane, and no other lane changes (R82). -/
theorem loseEntry_lane (i : LaneId) (o : MemberOutcome) (s : State) (e : OutEntry) (j : LaneId) :
    (State.loseEntry i o s e).lane j = if j = i then (s.lane i).dropEntry e.record else s.lane j := by
  simp [State.loseEntry, State.lane_updLane]

theorem loseEntry_record_of_ne (i : LaneId) (o : MemberOutcome) (s : State) (e : OutEntry) {q : RecordId}
    (h : q ≠ e.record) : (State.loseEntry i o s e).record q = s.record q := by
  unfold State.loseEntry
  rw [closingCheck_record_of_ne _ h, State.record_updLane, setOutcome_record_of_ne s i o h]

theorem loseEntries_frame (s : State) (i : LaneId) (o : MemberOutcome) : StepFrame s (s.loseEntries i o) :=
  foldl_keeps StepFrame.refl StepFrame.trans (loseEntry_frame i o) _ s

theorem foldl_loseEntry_lane (i : LaneId) (o : MemberOutcome) (l : List OutEntry) (s : State) (j : LaneId) :
    (l.foldl (State.loseEntry i o) s).lane j =
      if j = i then
        { s.lane i with
          outstanding := (s.lane i).outstanding.filter fun e => ∀ e' ∈ l, e.record ≠ e'.record }
      else s.lane j := by
  induction l generalizing s with
  | nil => by_cases h : j = i <;> simp [h]
  | cons e l ih =>
    rw [List.foldl_cons, ih, loseEntry_lane, loseEntry_lane]
    by_cases h : j = i
    · simp only [h, if_true, Lane.dropEntry, List.filter_filter]
      congr 1
      apply List.filter_congr
      intro x _
      by_cases hx : x.record = e.record <;> simp [hx]
    · simp [h]

/-- A lane loss takes every entry of the lane and nothing else of any lane (R82, R83). -/
theorem loseEntries_lane (s : State) (i : LaneId) (o : MemberOutcome) (j : LaneId) :
    (s.loseEntries i o).lane j = if j = i then { s.lane i with outstanding := [] } else s.lane j := by
  unfold State.loseEntries
  rw [foldl_loseEntry_lane]
  by_cases h : j = i
  · simp only [h, if_true]
    congr 1
    rw [List.filter_eq_nil_iff]
    intro e he hc
    simp only [decide_eq_true_eq] at hc
    exact hc e he rfl
  · simp [h]

/-- A lane loss reaches only the records its entries name (R82). -/
theorem loseEntries_record_of_not_named (s : State) (i : LaneId) (o : MemberOutcome) (r : RecordId)
    (h : ∀ e ∈ (s.lane i).outstanding, e.record ≠ r) : (s.loseEntries i o).record r = s.record r := by
  unfold State.loseEntries
  generalize (s.lane i).outstanding = l at h
  induction l generalizing s with
  | nil => rfl
  | cons e l ih =>
    rw [List.foldl_cons, ih _ fun x hx => h x (List.mem_cons_of_mem _ hx)]
    exact loseEntry_record_of_ne i o s e (Ne.symm (h e List.mem_cons_self))

theorem loseWork_frame (s : State) (i : LaneId) : StepFrame s (s.loseWork i) :=
  StepFrame.trans (loseEntries_frame s i .lost) (by rfl)

/-- Losing its work takes from a lane its entries and their steps' unsent DO frames (R37). -/
theorem loseWork_lane (s : State) (i j : LaneId) :
    (s.loseWork i).lane j =
      if j = i then
        Lane.removeSteps { s.lane i with outstanding := [] } ((s.lane i).outstanding.map OutEntry.stepId)
      else s.lane j := by
  unfold State.loseWork
  rw [State.lane_updLane, loseEntries_lane, loseEntries_lane]
  by_cases h : j = i <;> simp [h]

theorem endOwing_frame (r : RecordId) (o : MemberOutcome) (s : State) (i : LaneId) :
    StepFrame s (State.endOwing r o s i) := by
  unfold State.endOwing; split
  · exact StepFrame.trans (setOutcome_frame s r i o) (by rfl)
  · rfl

theorem removeUnsent_frame (r : RecordId) (s : State) (i : LaneId) : StepFrame s (State.removeUnsent r s i) := by
  unfold State.removeUnsent; split <;> rfl

theorem endStep_frame (s : State) (r : RecordId) (o : MemberOutcome) (c : CloseCause) :
    StepFrame s (s.endStep r o c) :=
  StepFrame.trans
    (StepFrame.trans (foldl_keeps StepFrame.refl StepFrame.trans (endOwing_frame r o) _ s)
      (foldl_keeps StepFrame.refl StepFrame.trans (removeUnsent_frame r) _ _))
    (closeStep_frame _ r c)

/-! ### The arbiter -/

theorem placeControl_frame (s : State) (i : LaneId) (c : ControlKind) (k : InstrumentId) :
    ArbiterFrame s (s.placeControl i c k) := by rfl

theorem updInstrument_frame (s : State) (k : InstrumentId) (f : Instrument → Instrument) :
    ArbiterFrame s (s.updInstrument k f) := by rfl

theorem reportInstrument_frame (s : State) (k : InstrumentId) (e : InstrumentEvent) (i : LaneId) (n : Nat) :
    ArbiterFrame s (s.reportInstrument k e i n) :=
  ArbiterFrame.trans (offerUrgent_frame s _) (recordEvent_frame _ i .instrument).arbiter

@[simp] theorem reportInstrument_lane (s : State) (k : InstrumentId) (e : InstrumentEvent) (i : LaneId)
    (n : Nat) (j : LaneId) : (s.reportInstrument k e i n).lane j = s.lane j := by
  simp [State.reportInstrument]

@[simp] theorem reportInstrument_instrument (s : State) (k : InstrumentId) (e : InstrumentEvent) (i : LaneId)
    (n : Nat) (m : InstrumentId) : (s.reportInstrument k e i n).instrument m = s.instrument m := by
  simp [State.reportInstrument]

@[simp] theorem reportInstrument_record (s : State) (k : InstrumentId) (e : InstrumentEvent) (i : LaneId)
    (n : Nat) (r : RecordId) : (s.reportInstrument k e i n).record r = s.record r := by
  simp [State.reportInstrument]

theorem grant_frame (s : State) (k : InstrumentId) (i : LaneId) : ArbiterFrame s (s.grant k i) :=
  ArbiterFrame.trans (updInstrument_frame s k _)
    (ArbiterFrame.trans (placeControl_frame _ i .grant k) (reportInstrument_frame _ k .granted i _))

/-- A grant changes one instrument record (R145). -/
theorem grant_instrument (s : State) (k m : InstrumentId) (i : LaneId) :
    (s.grant k i).instrument m = if m = k then (s.instrument k).granted i else s.instrument m := by
  simp [State.grant, State.placeControl, State.instrument_updInstrument]

/-- A grant places a GRANT frame in one control slot (R145, R154). -/
theorem grant_lane (s : State) (k : InstrumentId) (i j : LaneId) :
    (s.grant k i).lane j =
      if j = i then { s.lane i with control := some { kind := .grant, instrument := k } } else s.lane j := by
  simp [State.grant, State.placeControl, State.lane_updLane]

/-- The next holder of a freed instrument is granted, or nothing happens (R146). -/
theorem chooseNext_cases (s : State) (k : InstrumentId) :
    (∃ i, firstAfter (s.instrument k).lastGranted (s.instrument k).waiting = some i
        ∧ s.chooseNext k = s.grant k i)
      ∨ (firstAfter (s.instrument k).lastGranted (s.instrument k).waiting = none ∧ s.chooseNext k = s) := by
  have e : s.nextHolder k = firstAfter (s.instrument k).lastGranted (s.instrument k).waiting := rfl
  unfold State.chooseNext
  rw [e]
  split
  · exact .inl ⟨_, ‹_›, rfl⟩
  · exact .inr ⟨‹_›, rfl⟩

theorem chooseNext_frame (s : State) (k : InstrumentId) : ArbiterFrame s (s.chooseNext k) := by
  rcases chooseNext_cases s k with ⟨i, -, h⟩ | ⟨-, h⟩ <;> rw [h]
  · exact grant_frame s k i
  · rfl

theorem loseInstrument_frame (i : LaneId) (s : State) (k : InstrumentId) :
    ArbiterFrame s (State.loseInstrument i s k) := by
  unfold State.loseInstrument; dsimp only
  refine ArbiterFrame.trans ?_ (updInstrument_frame _ k _)
  split
  · exact ArbiterFrame.trans (updInstrument_frame s k _)
      (ArbiterFrame.trans (reportInstrument_frame _ k .dropped i 0) (chooseNext_frame _ k))
  · rfl

theorem loseInstruments_frame (s : State) (i : LaneId) : ArbiterFrame s (s.loseInstruments i) :=
  foldl_keeps ArbiterFrame.refl ArbiterFrame.trans (loseInstrument_frame i) _ s

theorem denyWaiters_frame (s : State) (k : InstrumentId) : ArbiterFrame s (s.denyWaiters k) :=
  foldl_keeps ArbiterFrame.refl ArbiterFrame.trans (fun s i => by split <;> rfl) _ s

theorem disableInstrument_frame (s : State) (k : InstrumentId) : ArbiterFrame s (s.disableInstrument k) := by
  unfold State.disableInstrument; dsimp only
  refine ArbiterFrame.trans (ArbiterFrame.trans ?_ (denyWaiters_frame _ k)) (updInstrument_frame _ k _)
  split
  · rfl
  · exact ArbiterFrame.trans (t := (s.updInstrument k Instrument.freed).placeControl _ .revoke k) (by rfl)
      (reportInstrument_frame _ k .revoked _ 0)

/-! ### The roster -/

theorem updLane_frame (s : State) (i : LaneId) (f : Lane → Lane) : RosterFrame s (s.updLane i f) := by rfl

theorem seatLane_frame (s : State) (i : LaneId) : RosterFrame s (s.seatLane i) :=
  RosterFrame.trans (updLane_frame s i _) (recordEvent_frame _ i .seated).roster

/-- A seated lane, as the statements describe it, and its event (R31). -/
theorem seatLane_eq (s : State) (i : LaneId) :
    s.seatLane i = (s.updLane i seatedLane).recordEvent i .seated := by
  unfold State.seatLane seatedLane Lane.announceStart Lane.seatEngine Lane.departEngine Lane.huntFresh
    Lane.linkFresh Lane.abandon
  congr 2
  funext l
  cases h : l.inFlight <;> simp [h]

theorem leaveOff_frame (s : State) (i : LaneId) : RosterFrame s (s.leaveOff i) := by
  unfold State.leaveOff; split
  · exact seatLane_frame s i
  · rfl

theorem bindOrHold_frame (s : State) (i : LaneId) (id : List Byte) : RosterFrame s (s.bindOrHold i id) := by
  unfold State.bindOrHold; split <;> exact RosterFrame.trans (updLane_frame s i _) (recordEvent_frame _ i _).roster

/-- The uniqueness check: held where another BOUND lane has the identity, else bound (R35). -/
theorem bindOrHold_lane (s : State) (i j : LaneId) (id : List Byte) :
    (s.bindOrHold i id).lane j =
      if j = i then (if s.boundElsewhere i id then (s.lane i).hold id else (s.lane i).bind id)
      else s.lane j := by
  unfold State.bindOrHold; split <;> simp [State.lane_updLane]

theorem depart_frame (s : State) (i : LaneId) (c : DepartCause) : RosterFrame s (s.depart i c) :=
  RosterFrame.trans (offerUrgent_frame s _).roster
    (RosterFrame.trans (loseEntries_frame _ i .gone).roster
      (RosterFrame.trans (updLane_frame _ i _)
        (RosterFrame.trans (loseInstruments_frame _ i).roster
          (RosterFrame.trans (updLane_frame _ i _) (recordEvent_frame _ i .departed).roster))))

theorem swap_frame (s : State) (i : LaneId) (id : List Byte) : RosterFrame s (s.swap i id) :=
  RosterFrame.trans (depart_frame s i .swapped) (bindOrHold_frame _ i id)

theorem rebind_frame (s : State) (i : LaneId) : RosterFrame s (s.rebind i) :=
  RosterFrame.trans (loseWork_frame s i).roster
    (RosterFrame.trans (updLane_frame _ i _)
      (RosterFrame.trans (loseInstruments_frame _ i).roster
        (RosterFrame.trans (updLane_frame _ i _) (recordEvent_frame _ i .rebound).roster)))

theorem loaderRestart_frame (s : State) (i : LaneId) : RosterFrame s (s.loaderRestart i) := by
  unfold State.loaderRestart; dsimp only
  refine RosterFrame.trans ?_ (RosterFrame.trans (updLane_frame _ i _) (recordEvent_frame _ i .loader).roster)
  split
  · exact RosterFrame.trans (loseWork_frame s i).roster (loseInstruments_frame _ i).roster
  · rfl

theorem powerOffRestart_frame (s : State) (i : LaneId) : RosterFrame s (s.powerOffRestart i) := by
  unfold State.powerOffRestart; dsimp only
  refine RosterFrame.trans ?_ (updLane_frame _ i _)
  split
  · exact RosterFrame.trans (loseWork_frame s i).roster
      (RosterFrame.trans (updLane_frame _ i _) (loseInstruments_frame _ i).roster)
  · exact updLane_frame s i _

theorem switchPower_frame (s : State) (i : LaneId) (level : Bool) : RosterFrame s (s.switchPower i level) := by
  unfold State.switchPower; split
  · rfl
  · dsimp only; split
    · exact RosterFrame.trans (updLane_frame s i _) (powerOffRestart_frame _ i)
    · rfl

theorem stall_frame (s : State) (i : LaneId) : RosterFrame s (s.stall i) := by
  unfold State.stall; dsimp only
  have h (f : Lane → Lane) : RosterFrame s ((s.setFlag i .sendFailed).updLane i f) := rfl
  refine RosterFrame.trans ?_ (RosterFrame.trans (updLane_frame _ i _) (recordEvent_frame _ i .stalled).roster)
  split
  · exact (h _).trans
      (RosterFrame.trans (loseEntries_frame _ i .undelivered).roster (loseInstruments_frame _ i).roster)
  · exact h _

theorem disableLane_frame (s : State) (i : LaneId) : RosterFrame s (s.disableLane i) := by
  unfold State.disableLane; dsimp only; split
  · exact RosterFrame.trans (updLane_frame s i _) (depart_frame _ i .disabled)
  · rfl

theorem enableLane_frame (s : State) (i : LaneId) : RosterFrame s (s.enableLane i) := by
  unfold State.enableLane; dsimp only; split
  · exact RosterFrame.trans (updLane_frame s i _) (leaveOff_frame _ i)
  · rfl

theorem setAutoPower_frame (s : State) (i : LaneId) (level : Bool) :
    RosterFrame s (s.setAutoPower i level) := by
  unfold State.setAutoPower; split
  · rfl
  · dsimp only; split
    · split
      · exact RosterFrame.trans (updLane_frame s i _) (switchPower_frame _ i true)
      · rfl
    · exact RosterFrame.trans (updLane_frame s i _) (switchPower_frame _ i false)

/-! ### Beacon entry -/

/-- A due beacon enters where a place is free, and nothing happens else (R190). -/
theorem enterBeacon_cases (s : State) :
    (s.beaconDue = true ∧ urgentTaken s < 32
        ∧ s.enterBeacon = { s with
            heartbeat := !s.heartbeat
            urgent := s.urgent ++ [.beacon { s with heartbeat := !s.heartbeat }.buildBeacon]
            holding := Vector.replicate 16 0#9
            beaconDue := false
            intervalTimer := some s.interval
            spacingTimer := some Config.beaconSpacing })
      ∨ ((s.beaconDue = false ∨ 32 ≤ urgentTaken s) ∧ s.enterBeacon = s) := by
  rcases Nat.lt_or_ge (urgentTaken s) 32 with h | h
  · have hf : s.urgentFull = false := decide_eq_false (Nat.not_le.2 h)
    cases hd : s.beaconDue
    · exact .inr ⟨.inl rfl, by simp [State.enterBeacon, hd]⟩
    · exact .inl ⟨rfl, h, by simp [State.enterBeacon, hd, hf]⟩
  · have hf : s.urgentFull = true := decide_eq_true h
    exact .inr ⟨.inr h, by simp [State.enterBeacon, hf]⟩

/-- Between an order's action and its ANSWER: nothing happens unless the action made a beacon due with a place free
besides the ANSWER's; then one free choice is taken, and the beacon enters or waits (R194). -/
theorem beaconBeforeAnswer_cases (s : State) (wasDue : Bool) :
    (wasDue = false ∧ s.beaconDue = true ∧ urgentTaken s < 32
        ∧ s.beaconBeforeAnswer wasDue =
          (if Config.beaconFirst s.choices then { s with choices := s.choices + 1 }.enterBeacon
            else { s with choices := s.choices + 1 }))
      ∨ ((wasDue = true ∨ s.beaconDue = false ∨ 32 ≤ urgentTaken s) ∧ s.beaconBeforeAnswer wasDue = s) := by
  rcases Nat.lt_or_ge (urgentTaken s) 32 with h | h
  · have hf : s.urgentFull = false := decide_eq_false (Nat.not_le.2 h)
    cases wasDue
    · cases hd : s.beaconDue
      · exact .inr ⟨.inr (.inl rfl), by simp [State.beaconBeforeAnswer, hd]⟩
      · exact .inl ⟨rfl, rfl, h, by simp [State.beaconBeforeAnswer, hd, hf]⟩
    · exact .inr ⟨.inl rfl, by simp [State.beaconBeforeAnswer]⟩
  · have hf : s.urgentFull = true := decide_eq_true h
    exact .inr ⟨.inr (.inr h), by simp [State.beaconBeforeAnswer, hf]⟩

/-- An order that leaves no beacon due, or found one due already, meets no choice (R194). -/
theorem beaconBeforeAnswer_of_not_made {s : State} {wasDue : Bool} (h : wasDue = true ∨ s.beaconDue = false) :
    s.beaconBeforeAnswer wasDue = s := by
  rcases h with h | h <;> simp [State.beaconBeforeAnswer, h]

/-! ### Orders -/

/-- Taking an order: the head leaves the ingress queue and a place is reserved, or nothing is taken (R171). -/
theorem takeOrder_cases (s : State) (mine : Order → Bool) :
    (∃ o rest, s.ingress = o :: rest ∧ s.currentOrder = none ∧ urgentTaken s < 32 ∧ mine o = true
        ∧ s.takeOrder mine =
          some (o, { s with ingress := rest, currentOrder := some o, answerReserved := true }))
      ∨ s.takeOrder mine = none := by
  unfold State.takeOrder
  split
  · exact .inr rfl
  · rename_i o rest h
    split
    · rename_i hc
      simp only [Bool.and_eq_true, Option.isNone_iff_eq_none, Bool.not_eq_true', State.urgentFull,
        decide_eq_false_iff_not, Nat.not_le] at hc
      exact .inl ⟨o, rest, h, hc.1.1, hc.1.2, hc.2, rfl⟩
    · exact .inr rfl

/-- One order served: not taken, refused, or acted on, and answered last (R171 to R173). -/
theorem serve_cases {α : Type} (s : State) (mine : Order → Bool) (check : State → Order → Except RefusalCode α)
    (act : α → State → State × AnswerBody) :
    s.serve mine check act = s
      ∨ ∃ o rest s1, s.ingress = o :: rest ∧ s.currentOrder = none ∧ urgentTaken s < 32 ∧ mine o = true
        ∧ s1 = { s with ingress := rest, currentOrder := some o, answerReserved := true }
        ∧ ((∃ c, checked check s1 o = .error c ∧ s.serve mine check act = s1.finishOrder o (.refused c))
          ∨ ∃ a, checked check s1 o = .ok a
            ∧ s.serve mine check act =
              ((act a s1).1.beaconBeforeAnswer s.beaconDue).finishOrder o (act a s1).2) := by
  unfold State.serve
  rcases takeOrder_cases s mine with ⟨o, rest, h1, h2, h3, h4, h⟩ | h
  · rw [h]
    refine .inr ⟨o, rest, _, h1, h2, h3, h4, rfl, ?_⟩
    dsimp only
    cases hc : checked check { s with ingress := rest, currentOrder := some o, answerReserved := true } o with
    | error c => exact .inl ⟨c, rfl, rfl⟩
    | ok a => exact .inr ⟨a, rfl, rfl⟩
  · rw [h]; exact .inl rfl

/-- A ready order of a command's own kind is taken. -/
theorem takeOrder_of_ready {s : State} {o : Order} {rest : List Order} {mine : Order → Bool}
    (h : OrderReady s o rest) (hm : mine o = true) :
    s.takeOrder mine = some (o, { s with ingress := rest, currentOrder := some o, answerReserved := true }) := by
  obtain ⟨h1, -, h3, h4, h5⟩ := h
  simp [State.takeOrder, h1, h3, State.urgentFull, h4, Config.urgentSize, hm, Nat.not_le.2 h5]

/-- A ready order whose check fails is answered with its refusal, the part otherwise as it was. -/
theorem serve_refused_of_ready {α : Type} {s : State} {o : Order} {rest : List Order} {mine : Order → Bool}
    {check : State → Order → Except RefusalCode α} {act : α → State → State × AnswerBody} {c : RefusalCode}
    (h : OrderReady s o rest) (hm : mine o = true)
    (hc : check { s with ingress := rest, currentOrder := some o, answerReserved := true } o = .error c) :
    s.serve mine check act = s.answered o rest (.refused c) := by
  unfold State.serve
  rw [takeOrder_of_ready h hm]
  obtain ⟨-, h2, h3, h4, -⟩ := h
  have ht : o.truncated = false := by simp [Order.truncated, h2]
  simp [checked, ht, hc, State.finishOrder, State.answered, h3, h4]

/-- A ready order whose check passes is acted on and answered. -/
theorem serve_ok_of_ready {α : Type} {s : State} {o : Order} {rest : List Order} {mine : Order → Bool}
    {check : State → Order → Except RefusalCode α} {act : α → State → State × AnswerBody} {a : α}
    (h : OrderReady s o rest) (hm : mine o = true)
    (hc : check { s with ingress := rest, currentOrder := some o, answerReserved := true } o = .ok a) :
    s.serve mine check act =
      ((act a { s with ingress := rest, currentOrder := some o, answerReserved := true }).1.beaconBeforeAnswer
        s.beaconDue).finishOrder o
        (act a { s with ingress := rest, currentOrder := some o, answerReserved := true }).2 := by
  unfold State.serve
  rw [takeOrder_of_ready h hm]
  have ht : o.truncated = false := by simp [Order.truncated, h.2.1]
  simp [checked, ht, hc]

end Sys2Proof.Machine
end

