-- ==== Sys2Proof/WellFormed.lean ====
section
/-! DEFINITION. Which commands can occur on the wires. The types already hold lane, instrument and record
numbers to their ranges; what is left is the length of a lane frame's payload (R5), the kind byte that
tells the two receive commands apart, and the type and opcode that make an uplink frame a PAUSE (R160).
No meaning depends on it: every command has its effect whether or not it is well formed. -/

namespace Sys2Proof

/-- The kind byte of a MARK (R197). -/
def markKindByte : Byte := 0x20#8

/-- Whether a command can occur: a lane payload has at most 240 bytes, a LANE_FRAME_RECEIVED is no MARK, and a
PAUSE command is a frame of type 8808h with opcode 0001h. -/
def wellFormed : Instr → Bool
  | .laneFrameReceived _ f => decide (f.payload.length ≤ Config.maxPayload) && f.kind != markKindByte
  | .mark _ _ _ payload _ => decide (payload.length ≤ Config.maxPayload)
  | .pause bytes _ => (bytes.drop 12).take 4 == [0x88#8, 0x08#8, 0x00#8, 0x01#8]
  | .powerOn _ _ | .linkUp | .linkDown | .uplinkFrame _ _ | .bulkHoldExpiry | .reportFrameStart
  | .summaryEnqueue | .step | .abort | .extend | .relay | .line | .laneSet | .instrumentSet | .beaconSet
  | .loadLimit | .loadGroup | .readLimit | .readGroup | .readRoster | .readBoard | .clearVerdict | .unlatch
  | .clearFlags | .resume | .start | .reset _ | .unknownOrderKind | .laneCharacter _ _ _ | .gapTimeout _
  | .sendMark _ | .sendNewFrame _ | .sendResend _ | .lastByteOut _ | .markWindowExpiry _
  | .retryPauseExpiry _ | .seatChange _ _ | .debounceExpiry _ | .announceExpiry _ | .keyPulseExpiry _
  | .hello | .result | .text | .claim | .release | .holdExpiry _ | .deadlineExpiry _ | .intervalExpiry
  | .spacingExpiry | .beaconEntry => true

end Sys2Proof
end

