-- ==== Sys2Proof/Tests/Slice0.lean ====
section
/-! SUPPORT. Smoke tests of WellFormed, values the spec works out, and for every statement with hypotheses a state
and operands that meet them. -/

namespace Sys2Proof.Tests

open Sys2Proof Sys2Proof.Machine
set_option Elab.async false

/-! ### Ill-formed commands (R5, R160, R197) -/

/-- A lane frame with a payload of a given length. -/
def longFrame (kind : Byte) (n : Nat) : RawFrame :=
  { framing := .app, kind := kind, seq := 0#8, payload := List.replicate n 0#8, check := 0#16 }

theorem test_wf_frame_240 : wellFormed (.laneFrameReceived 0 (longFrame 0x12#8 240)) = true := by decide +kernel
theorem test_wf_frame_241 : wellFormed (.laneFrameReceived 0 (longFrame 0x12#8 241)) = false := by decide +kernel
theorem test_wf_frame_mark : wellFormed (.laneFrameReceived 0 (longFrame 0x20#8 2)) = false := by decide +kernel
theorem test_wf_mark_241 : wellFormed (.mark 0 .app 0#8 (List.replicate 241 0#8) 0#16) = false := by
  decide +kernel
theorem test_wf_pause_opcode :
    wellFormed (.pause (ethernetFrame (List.replicate 6 1#8) (List.replicate 6 2#8) 0x8808#16
      (be16 2#16 ++ List.replicate 44 0#8)) false) = false := by
  decide +kernel

/-! ### Values the spec works out -/

/-- Section 1.2, the sums of the two worked check words (assumption 21). -/
theorem test_check_words :
    sumWords [0x03#8, 0x10#8, 0x07#8, 0x01#8, 0xFF#8] 0#16 = 0x1209#16
      ∧ sumWords [0x02#8, 0x21#8, 0xFF#8, 0xF0#8, 0xFF#8] 0#16 = 0x1301#16 := by
  decide +kernel

/-- The digests of R105's table. -/
theorem test_digests :
    digest [0x31#8, 0x32#8, 0x33#8, 0x34#8, 0x35#8, 0x36#8, 0x37#8, 0x38#8, 0x39#8] = 0x29B1#16
      ∧ digest [0x00#8] = 0xE1F0#16 := by
  decide +kernel

/-- The table of R108. -/
theorem test_rescale_table :
    ([(4187, -1), (4205, -1), (-4205, -1), (4251, -1), (-15, -1), (-14, -1), (1500000000, -9),
        (-2147483648, -1), (-2147483648, -10), (5, -1), (4, -1)].map fun (p : Int × Int) =>
          (rescale p.1 p.2).value)
      = [419, 421, -421, 425, -2, -1, 2, -214748365, 0, 1, 0] := by
  decide +kernel

/-! ### A lawful state with every kind of lane, record and instrument -/

/-- A lane in a state, holding nothing. -/
def lane (st : LaneState) : Lane := { Lane.reset with state := st }

/-- A BOUND lane with an identity. -/
def bound (identity : Byte) : Lane := { lane .bound with identity := some [identity], bindCount := 1 }

/-- A frame of the part's own, in flight and awaiting its mark, the mark window about to run out. -/
def flight (resends : Nat) : InFlight :=
  { frame := .queued (.passOn []), seq := 7#8, resends := resends, phase := .awaiting 0 }

/-- A taken APP frame. -/
def app (kind : Byte) (payload : List Byte) : RxFrame := ⟨.app, kind, 1#8, payload⟩

/-- A final RESULT for a step, without fields. -/
def result (id : Half) (tag : Byte) : RxFrame := app 0x11#8 (le16 id ++ [tag, 0x01#8, 0x00#8])

/-- An OPEN record, its deadline about to run out. -/
def opened (id : Half) (lanes : LaneSet) : StepRecord :=
  { StepRecord.reset with
    state := .opened, stepId := some id, deadline := some 0, tag := 5#8, stream := true
    members := Vector.ofFn fun i =>
      if inSet lanes i then some { outcome := .pending, verdict := .none, count := 0, stat := none } else none }

/-- A lawful state: lane 0 a holder with a step, lane 1 a waiter with two, and a lane of every other kind, every timer
that runs at its end; steps 1 and 2 OPEN, step 3 CLOSING, step 4 the last ID of a FREE record. -/
def w : State :=
  { State.reset with
    startup := false
    linkUp := true
    pointer := 15
    beaconDue := false
    lanes := ⟨#[
      { bound 0x41#8 with
        outstanding := [⟨1#16, 0⟩], txQueue := [.doStep 1#16 5#8 [], .passOn []], power := true
        settings := { LaneSettings.default with autoPower := true }, seat := true, debounce := some 0
        rxBuffer := [app 0x10#8 [0x41#8], app 0x14#8 [1#8]] },
      { bound 0x42#8 with
        outstanding := [⟨1#16, 0⟩, ⟨2#16, 1⟩], rxBuffer := [result 1#16 5#8, result 1#16 6#8] },
      { lane .seated with inFlight := some (flight 8), rxBuffer := [app 0x10#8 [0x43#8]] },
      { lane .held with identity := some [0x42#8], rxBuffer := [app 0x10#8 [0x44#8]] },
      { lane .stalled with
        resume := some .bound, identity := some [0x42#8], rxBuffer := [app 0x10#8 [0x41#8], result 3#16 5#8] },
      { lane .stalled with resume := some .seated },
      { lane .stalled with resume := some .held, identity := some [0x41#8] },
      { lane .stalled with resume := some .bound, identity := some [0x46#8] },
      { lane .seated with mode := .loader, rxBuffer := [⟨.loader, 0x12#8, 1#8, []⟩] },
      lane .empty,
      { lane .seated with
        rxBuffer := [app 0x12#8 [], app 0x13#8 [1#8]], hunt := .sync, gapTimer := some 0 },
      { bound 0x47#8 with rxBuffer := [app 0x13#8 [2#8], app 0x14#8 [2#8]], inFlight := some (flight 8) },
      { lane .empty with rawSeat := true, debounce := some 0 },
      { lane .off with settings := { LaneSettings.default with enabled := false } },
      { bound 0x48#8 with inFlight := some (flight 0) },
      { lane .seated with marks := [⟨9#8, .taken⟩], txQueue := [.passOn []] }], rfl⟩
    records := ((((State.reset.records.set 0 (opened 1#16 0x0003#16)).set 1 (opened 2#16 0x0002#16)).set 2
      { opened 3#16 0#16 with state := .closing, deadline := none, cause := some .complete }).set 3
      { opened 4#16 0#16 with state := .free, deadline := none })
    freeOrder := (List.finRange 32).drop 3
    closing := [2]
    instruments := ((State.reset.instruments.set 0
      { enabled := true, holder := some 0, holdLimit := 5, holdTimer := some 0, waiting := 0x0002#16
        lastGranted := 0, revoked := 0#16 }).set 1
      { Instrument.reset with enabled := true, revoked := 0x0800#16 }) }

theorem test_w_lawful : Lawful w where
  capacity :=
    { lanes := by decide +kernel, ingress := by decide +kernel, urgent := by decide +kernel
      bulk := by decide +kernel, drops := by decide +kernel }
  identity := by unfold IdentityLaw; decide +kernel
  startup := by unfold StartupLaw; decide +kernel
  engine := by unfold EngineLaw; decide +kernel
  arbiter := by unfold ArbiterLaw; decide +kernel
  table :=
    { free := by decide +kernel, closing := by decide +kernel, ids := by decide +kernel
      distinct := by decide +kernel }
  owing := by unfold OwingLaw; decide +kernel

/-! ### The orders: hypotheses met

An equation of a statement that only names a term is met by taking the term, and is left out below. -/

/-- An order whose whole body is present. -/
def ord (kind : Byte) (body : List Byte) : Order :=
  { kind := kind, number := 0x0102#16, declared := body.length, body := body }

/-- A state with one order waiting. -/
def given (s : State) (kind : Byte) (body : List Byte) : State := { s with ingress := [ord kind body] }

theorem given_ready (s : State) (kind : Byte) (body : List Byte) (hc : s.currentOrder = none)
    (ha : s.answerReserved = false) (hu : s.urgent.length < 32) :
    OrderReady (given s kind body) (ord kind body) [] :=
  ⟨rfl, rfl, hc, ha, hu⟩

theorem given_lawful (kind : Byte) (body : List Byte) : Lawful (given w kind body) where
  capacity :=
    { lanes := test_w_lawful.capacity.lanes, ingress := by simp [given], urgent := test_w_lawful.capacity.urgent
      bulk := test_w_lawful.capacity.bulk, drops := test_w_lawful.capacity.drops }
  identity := test_w_lawful.identity
  startup := test_w_lawful.startup
  engine := test_w_lawful.engine
  arbiter := test_w_lawful.arbiter
  table := ⟨test_w_lawful.table.free, test_w_lawful.table.closing, test_w_lawful.table.ids,
    test_w_lawful.table.distinct⟩
  owing := test_w_lawful.owing

theorem w_ready (kind : Byte) (body : List Byte) : OrderReady (given w kind body) (ord kind body) [] :=
  given_ready w kind body rfl rfl (by decide)

/-- The lawful state while STARTUP is set, for statements that ask no law. -/
def ws : State := { w with startup := true }

theorem ws_ready (kind : Byte) (body : List Byte) : OrderReady (given ws kind body) (ord kind body) [] :=
  given_ready ws kind body rfl rfl (by decide)

/-- The lawful state with every kind of event masked in, so that an event makes a beacon due at once. -/
def masked : State := { w with noticeMask := 0x1FF#9 }

/-- Both cases of AnswerFollows: an action that makes no beacon due, and one that makes one due with a place free. -/
theorem test_met_answer_follows :
    (w.recordEvent 4 .held).beaconDue = false
      ∧ (masked.beaconDue = false ∧ (masked.recordEvent 4 .held).beaconDue = true
        ∧ urgentTaken (masked.recordEvent 4 .held) < 32)
      ∧ ({ masked with beaconDue := true } : State).beaconDue = true := by
  decide +kernel

theorem test_met_reset :
    OrderReady (given w 0x10#8 []) (ord 0x10#8 []) [] ∧ OrderReady (given w 0x10#8 [1#8]) (ord 0x10#8 [1#8]) []
      ∧ (ord 0x10#8 [1#8]).body ≠ [] :=
  ⟨w_ready _ _, w_ready _ _, by decide⟩

theorem test_met_idle : State.reset.pending = [] := rfl

theorem test_met_refused_and_answered :
    orderCommand .abort = true
      ∧ exec .abort (given w 0x02#8 (le16 9#16))
          = .next ((given w 0x02#8 (le16 9#16)).answered (ord 0x02#8 (le16 9#16)) [] (.refused .unknownStep)) :=
  ⟨rfl, rfl⟩

theorem test_met_unknown_or_truncated :
    (ord 0x00#8 []).kind.toNat < 1 ∧ 16 < (ord 0x11#8 []).kind.toNat
      ∧ ∀ o : Order, o = { ord 0x02#8 [1#8] with declared := 2 } → o.body.length < o.declared := by
  refine ⟨by decide, by decide, fun o h => by subst h; decide⟩

/-- A STEP body under an ID no record carries. -/
def sb : List Byte := stepBody 9#16 (.lanes 0x4801#16) 0#8 true 0#16 63#8 0xFFFF#16 5#8 []

theorem test_met_step_pending :
    (given w 0x01#8 sb).takenAs ((given w 0x01#8 sb).membersOf (.lanes 0x4801#16)) .pending ≠ 0#16
      ∧ w.freeOrder = 3 :: (List.finRange 32).drop 4
      ∧ (∀ r', (w.record r').state ≠ .free → (w.record r').stepId ≠ some 9#16)
      ∧ (List.replicate 200 0#8 : List Byte).length ≤ 200 := by
  decide +kernel

theorem test_met_step_nothing_pending :
    (given w 0x01#8 sb).takenAs ((given w 0x01#8 sb).membersOf (.group 31)) .pending = 0#16
      ∧ (given w 0x01#8 sb).takenAs ((given w 0x01#8 sb).membersOf (.lanes 0x0200#16)) .pending = 0#16 := by
  decide +kernel

theorem test_met_step_refusals :
    ([] : List Byte).length ≠ 13 + (byteAt [] 12).toNat
      ∧ (∀ b ∈ [sb.set 0 0#8, sb.set 2 2#8, sb.set 8 64#8, (sb.set 2 1#8).set 3 32#8, sb.set 5 2#8,
          sb.set 12 201#8 ++ List.replicate 201 0#8],
          b.length = 13 + (byteAt b 12).toNat
            ∧ (halfAt b 0 = 0#16 ∨ 1 < (byteAt b 2).toNat ∨ 63 < (byteAt b 8).toNat
              ∨ (byteAt b 2 = 0x01#8 ∧ 31 < (byteAt b 3).toNat) ∨ 1 < (byteAt b 5).toNat
              ∨ 200 < (byteAt b 12).toNat))
      ∧ (∃ r, (w.record r).state ≠ .free ∧ (w.record r).stepId = some 3#16) := by
  decide +kernel

theorem test_met_abort_extend_deadline :
    ((ord 0x02#8 []).body.length ≠ 2 ∧ (ord 0x03#8 (le16 1#16)).body.length ≠ 4)
      ∧ (∀ r, (w.record r).state = .opened → (w.record r).stepId ≠ some 3#16)
      ∧ (w.record 0).state = .opened ∧ (w.record 0).stepId = some 1#16 ∧ (w.record 0).deadline = some 0
      ∧ ∀ r', (w.record r').state = .opened → (w.record r').stepId = some 1#16 → r' = 0 := by
  decide +kernel

theorem test_met_relay :
    (∀ b ∈ [[0#8, 0#8], [17#8, 0#8], 1#8 :: 241#8 :: List.replicate 241 0#8],
        b.length = 2 + (byteAt b 1).toNat
          ∧ ((byteAt b 0).toNat < 1 ∨ 16 < (byteAt b 0).toNat ∨ 240 < (byteAt b 1).toNat))
      ∧ ((w.lane 5).state ≠ .seated ∧ (w.lane 5).state ≠ .bound ∧ (w.lane 5).state ≠ .held)
      ∧ (w.lane 2).state = .seated ∧ (w.lane 2).txQueue.length < 8
      ∧ 8 ≤ ((w.withLane 2 { w.lane 2 with txQueue := List.replicate 8 (.passOn []) }).lane 2).txQueue.length := by
  decide +kernel

theorem test_met_line :
    (∀ b ∈ [[0#8, 0#8, 0#8, 0#8, 0#8], [17#8, 0#8, 0#8, 0#8, 0#8], [1#8, 3#8, 0#8, 0#8, 0#8],
          [1#8, 0#8, 2#8, 0#8, 0#8]],
        b.length = 5 ∧ ((byteAt b 0).toNat < 1 ∨ 16 < (byteAt b 0).toNat ∨ 2 < (byteAt b 1).toNat
          ∨ 1 < (byteAt b 2).toNat))
      ∧ (ord 0x05#8 [1#8, 0#8, 0#8, 0#8]).body.length ≠ 5 ∧ ws.startup = true
      ∧ ¬((0x02#8 : Byte) = 0x02#8 ∧ (w.lane 9).power = true ∧ (w.lane 9).state.occupied = true)
      ∧ ¬((0x01#8 : Byte) = 0x02#8 ∧ (w.lane 0).power = true ∧ (w.lane 0).state.occupied = true) := by
  decide +kernel

theorem test_met_power_off :
    (w.lane 0).state.occupied = true ∧ (w.lane 0).power = true ∧ (w.lane 0).settings.autoPower = true := by
  decide +kernel

theorem test_met_lane_set :
    (∀ b ∈ [LaneSetBytes.leave.body 0 |>.set 0 0#8, (LaneSetBytes.leave.body 0).set 0 17#8,
          (LaneSetBytes.leave.body 0).set 1 2#8, (LaneSetBytes.leave.body 0).set 2 3#8,
          (LaneSetBytes.leave.body 0).set 14 0xFE#8, (LaneSetBytes.leave.body 0).set 15 2#8],
        b.length = 16 ∧ ((byteAt b 0).toNat < 1 ∨ 16 < (byteAt b 0).toNat
          ∨ (byteAt b 1 ≠ 0xFF#8 ∧ 1 < (byteAt b 1).toNat) ∨ (byteAt b 2 ≠ 0xFF#8 ∧ 2 < (byteAt b 2).toNat)
          ∨ (byteAt b 14 ≠ 0xFF#8 ∧ 1 < (byteAt b 14).toNat)
          ∨ (byteAt b 15 ≠ 0xFF#8 ∧ 1 < (byteAt b 15).toNat)))
      ∧ (ord 0x06#8 []).body.length ≠ 16
      ∧ ((0x00#8 : Byte).toNat ≤ 1 ∧ rateOver 0x00#8 (w.lane 0).settings.rate ≠ (w.lane 0).settings.rate
        ∧ (w.lane 0).state.occupied = true)
      ∧ rateOver 0xFF#8 (w.lane 0).settings.rate = (w.lane 0).settings.rate
      ∧ (w.lane 9).state.occupied = false := by
  decide +kernel

/-- Lane 13 with its seat level on. -/
def seated13 : State := w.withLane 13 { w.lane 13 with seat := true }

theorem test_met_enable_disable :
    ((w.lane 9).settings.enabled = true ∧ (w.lane 9).state.occupied = false)
      ∧ ((w.lane 13).settings.enabled = false ∧ (w.lane 13).state = .off ∧ (w.lane 13).seat = false)
      ∧ ((ws.lane 13).settings.enabled = false ∧ ws.startup = true)
      ∧ ((seated13.lane 13).seat = true ∧ seated13.startup = false ∧ (seated13.lane 13).state = .off) := by
  decide +kernel

theorem test_met_departure :
    (w.lane 0).state.occupied = true ∧ (w.lane 0).debounce = some 0 ∧ (w.lane 0).rawSeat = false
      ∧ (w.lane 0).seat = true ∧ (w.lane 0).settings.enabled = true ∧ (w.instrument 0).holder = some 0
      ∧ rateOver 0xFF#8 (w.lane 0).settings.rate = (w.lane 0).settings.rate := by
  decide +kernel

theorem test_met_instrument_set :
    (∀ b ∈ [[0#8, 0#8, 0#8, 0#8], [5#8, 0#8, 0#8, 0#8], [1#8, 2#8, 0#8, 0#8]],
        b.length = 4 ∧ ((byteAt b 0).toNat < 1 ∨ 4 < (byteAt b 0).toNat ∨ 1 < (byteAt b 1).toNat))
      ∧ (ord 0x07#8 [1#8]).body.length ≠ 4
      ∧ (w.instrument 0).enabled = true ∧ (w.instrument 2).enabled = false := by
  decide +kernel

theorem test_met_beacon_set :
    (∀ b ∈ [[0#8, 0#8, 0#8, 2#8, 0#8], [0#8, 0#8, 0#8, 0#8, 4#8]],
        b.length = 5 ∧ (511 < (halfAt b 2).toNat ∨ 3 < (byteAt b 4).toNat))
      ∧ (ord 0x08#8 []).body.length ≠ 5
      ∧ (ord 0x08#8 (le16 0#16 ++ le16 ((0x1FF#9).setWidth 16) ++ [Selection.steps.code])).body
        = [0x00#8, 0x00#8, 0xFF#8, 0x01#8, 0x03#8] := by
  decide +kernel

theorem test_met_load_refusals :
    ((ord 0x09#8 []).body = [] ∧ (ord 0x0A#8 []).body = [])
      ∧ (∀ b ∈ [[0#8, 1#8, 1#8], [5#8, 1#8, 1#8]],
        3 ≤ b.length ∧ b.length = 3 ∧ ((byteAt b 0).toNat < 1 ∨ 4 < (byteAt b 0).toNat))
      ∧ (∀ p ∈ [([1#8, 0#8, 1#8], 22), ([3#8, 1#8, 1#8], 31), ([4#8, 1#8, 1#8], 23)],
        (p.1.head? = some 0x01#8 ∧ p.2 = 22 ∨ p.1.head? = some 0x03#8 ∧ p.2 = 31
            ∨ p.1.head? = some 0x04#8 ∧ p.2 = 23) ∧ p.1.length ≠ 3 + p.2 * (byteAt p.1 2).toNat)
      ∧ (∀ p ∈ [([1#8, 0#8, 0#8], 22), (1#8 :: 0#8 :: 65#8 :: List.replicate (22 * 65) 0#8, 22),
          (3#8 :: 1#8 :: 1#8 :: List.replicate 31 0#8, 31), (4#8 :: 1#8 :: 1#8 :: List.replicate 23 0#8, 23)],
        (p.1.head? = some 0x01#8 ∧ p.2 = 22 ∨ p.1.head? = some 0x03#8 ∧ p.2 = 31
            ∨ p.1.head? = some 0x04#8 ∧ p.2 = 23) ∧ p.1.length = 3 + p.2 * (byteAt p.1 2).toNat
          ∧ (byteAt p.1 0 ≠ 0x01#8 ∨ byteAt p.1 2 = 0#8 ∨ 64 < (byteAt p.1 2).toNat)) := by
  decide +kernel

theorem test_met_load_limit :
    (∀ k, k < 64 → LimitImageOk (imageAt 22 k (List.replicate (22 * 64) 0#8)))
      ∧ 192 + 64 ≤ 256 ∧ 256 < 193 + 64
      ∧ ¬LimitImageOk (imageAt 22 0 (0x01#8 :: List.replicate 21 0#8)) := by
  unfold LimitImageOk
  decide +kernel

theorem test_met_load_group :
    ([0x02#8, 1#8, 1#8].head? = some 0x02#8 ∧ [0x02#8, 1#8, 1#8].length ≠ 3 + 2 * (1#8 : Byte).toNat)
      ∧ ((0#8 : Byte).toNat < 1 ∧ 32 < (33#8 : Byte).toNat
        ∧ (List.replicate 66 0#8).length = 2 * (33#8 : Byte).toNat)
      ∧ (0#8 : Byte).toNat = 0 ∧ 32 < (31#8 : Byte).toNat + (2#8 : Byte).toNat
      ∧ (31#8 : Byte).toNat + (1#8 : Byte).toNat ≤ 32 ∧ (1#8 : Byte).toNat + (31#8 : Byte).toNat ≤ 32 := by
  decide

theorem test_met_reads :
    ((ord 0x0A#8 [3#8, 1#8]).body.length ≠ 3 ∧ (0#8 : Byte).toNat < 1 ∧ 64 < (65#8 : Byte).toNat
        ∧ 32 < (33#8 : Byte).toNat ∧ 16 < (17#8 : Byte).toNat)
      ∧ (255 + 1 < (255#8 : Byte).toNat + (2#8 : Byte).toNat ∧ 31 + 1 < (31#8 : Byte).toNat + (2#8 : Byte).toNat
        ∧ 16 + 1 < (16#8 : Byte).toNat + (2#8 : Byte).toNat ∧ (0#8 : Byte).toNat < 1)
      ∧ ((255#8 : Byte).toNat + (1#8 : Byte).toNat ≤ 256 ∧ (192#8 : Byte).toNat + (64#8 : Byte).toNat ≤ 256)
      ∧ ((0#8 : Byte).toNat + (32#8 : Byte).toNat ≤ 32 ∧ (31#8 : Byte).toNat + (1#8 : Byte).toNat ≤ 32)
      ∧ ((1#8 : Byte).toNat + (16#8 : Byte).toNat ≤ 17 ∧ (16#8 : Byte).toNat + (1#8 : Byte).toNat ≤ 17) := by
  decide

theorem test_met_clearing :
    (ord 0x0D#8 (le16 0xFFFF#16)).body.length = 2 ∧ (ord 0x0D#8 []).body.length ≠ 2 := by
  decide

theorem test_met_resume :
    ((ord 0x0E#8 []).body.length ≠ 1 ∧ (byteAt [0#8] 0).toNat < 1 ∧ 16 < (byteAt [17#8] 0).toNat)
      ∧ (w.lane 0).state ≠ .stalled
      ∧ ((w.lane 5).state = .stalled ∧ (w.lane 5).resume = some .seated)
      ∧ ((w.lane 6).state = .stalled ∧ (w.lane 6).resume = some .held)
      ∧ ((w.lane 7).resume = some .bound ∧ (w.lane 7).identity = some [0x46#8]
        ∧ ∀ j, j ≠ 7 → (w.lane j).state = .bound → (w.lane j).identity ≠ some [0x46#8])
      ∧ ((w.lane 4).resume = some .bound ∧ (w.lane 4).identity = some [0x42#8]
        ∧ ∃ j, j ≠ 4 ∧ (w.lane j).state = .bound ∧ (w.lane j).identity = some [0x42#8]) := by
  decide +kernel

theorem test_met_start :
    (ord 0x0F#8 [0#8]).body ≠ [] ∧ w.startup = false ∧ State.reset.startup = true
      ∧ (∀ i : LaneId, (State.reset.lane i).state = .off)
      ∧ OrderReady (given State.reset 0x0F#8 []) (ord 0x0F#8 []) [] := by
  refine ⟨by decide, rfl, rfl, by decide +kernel, given_ready _ _ _ rfl rfl (by decide)⟩

/-! ### The uplink: hypotheses met -/

theorem test_met_pause :
    (99999 < 100000 ∧ ({ w with bulkHold := some 100000 } : State).bulkHold = some 100000 ∧ w.bulkHold = none)
      ∧ (0x0002#16 : Half) ≠ 0x0001#16
      ∧ w.linkUp = true ∧ (List.replicate 42 0#8).length = 42 ∧ (List.replicate 1496 0#8).length = 1496
      ∧ (List.replicate 6 7#8 : List Byte) ≠ [0x01#8, 0x80#8, 0xC2#8, 0x00#8, 0x00#8, 0x01#8]
      ∧ (List.replicate 6 7#8 : List Byte) ≠ stationAddress w.station := by
  decide +kernel

theorem test_met_uplink_frame :
    ((0x0800#16 : Half) ≠ 0x8808#16 ∧ (0x0800#16 : Half) ≠ 0x88B5#16
        ∧ (List.replicate 6 7#8 : List Byte) ≠ List.replicate 6 0xFF#8
        ∧ (List.replicate 6 7#8 : List Byte) ≠ stationAddress w.station
        ∧ (byteAt [0x11#8, 1#8, 2#8, 3#8, 4#8, 5#8] 0).getLsbD 0 = true
        ∧ (List.replicate 46 0#8 : List Byte).length = 46 ∧ (List.replicate 1500 0#8 : List Byte).length = 1500)
      ∧ (byteAt [0x10#8, 1#8, 2#8, 3#8, 4#8, 5#8] 0).getLsbD 0 = false
      ∧ [0x10#8, 1#8, 2#8, 3#8, 4#8, 5#8] ≠ stationAddress w.station
      ∧ (1#8 : Byte) ≠ w.station.setWidth 8 ∧ 0x80 ≤ (0x80#8 : Byte).toNat
      ∧ (0#8 : Byte) = w.station.setWidth 8 ∧ (0x7F#8 : Byte).toNat < 0x80 := by
  decide +kernel

theorem test_met_damaged :
    State.reset.linkUp = false ∧ (List.replicate 63 0#8).length < 64 ∧ 1518 < (List.replicate 1519 0#8).length
      ∧ (List.replicate 64 0#8).drop 60 ≠ le32 (fcs ((List.replicate 64 0#8).take 60)) := by
  decide +kernel

theorem test_met_report_frame :
    (∃ r, ({ w with urgent := [.answer 0#16 0#8 (.okAbort 0)] } : State).urgent = [r])
      ∧ (∃ r, ({ w with bulk := [.text 0 .text 0#8 0#8 []] } : State).bulk = [r] ∧ w.urgent = []
        ∧ w.bulkHold = none)
      ∧ State.reset.linkUp = false :=
  ⟨⟨_, rfl⟩, ⟨_, rfl, rfl, rfl⟩, rfl⟩

theorem test_met_summary : w.closing = [2] ∧ w.bulk.length < 64 ∧ State.reset.closing = [] := by decide +kernel

/-! ### The lanes: hypotheses met -/

theorem test_met_frame_by_characters :
    (w.lane 2).state.occupied = true ∧ (w.lane 2).hunt = .hunt ∧ (List.replicate 240 0#8).length ≤ 240 := by
  decide +kernel

theorem test_met_partial_frames :
    (w.lane 9).state.occupied = false ∧ (w.lane 2).state.occupied = true ∧ (w.lane 2).hunt = .hunt
      ∧ (w.lane 2).gapTimer ≠ some 0
      ∧ ((w.lane 10).state.occupied = true ∧ (w.lane 10).hunt = .sync ∧ (w.lane 10).gapTimer = some 0)
      ∧ (240#8 : Byte).toNat ≤ 240 ∧ ¬(241#8 : Byte).toNat ≤ 240 := by
  decide +kernel

theorem test_met_received_frame :
    (w.lane 2).mode = .app ∧ (huntingAfresh (w.lane 2)).marks.length < 4
      ∧ 4 ≤ ({ w.lane 2 with marks := List.replicate 4 ⟨0#8, .taken⟩ } : Lane).marks.length
      ∧ ({ w.lane 2 with lastTaken := some 1#8 } : Lane).lastTaken = some 1#8
      ∧ (w.lane 2).lastTaken ≠ some 1#8 ∧ (w.lane 2).rxBuffer.length < 2 ∧ 2 ≤ (w.lane 0).rxBuffer.length
      ∧ (∀ p ∈ [(0x33#8, []), (0x11#8, [0#8, 0#8, 0#8, 2#8, 0#8]), (0x13#8, [5#8])], Malformed p.1 p.2)
      ∧ ¬Malformed 0x12#8 [] := by
  unfold Malformed
  decide +kernel

theorem test_met_bad_check : (0x0000#16 : Half) ≠ checkWord 0x12#8 0#8 [] := by decide +kernel

theorem test_met_mode_switch :
    (w.lane 2).mode = .app ∧ (w.lane 2).marks.length < 4 ∧ (w.lane 2).rxBuffer.length < 2
      ∧ (w.lane 8).mode = .loader ∧ (w.lane 8).marks.length < 4 ∧ (w.lane 8).rxBuffer.length < 2
      ∧ (w.lane 8).state.occupied = true ∧ ¬Malformed 0x12#8 []
      ∧ (MarkMalformed [] ∧ ¬MarkMalformed [0#8, 2#8] ∧ Malformed 0x33#8 [])
      ∧ (2 ≤ (w.lane 0).rxBuffer.length ∧ (w.lane 0).mode = .app)
      ∧ 4 ≤ ((w.withLane 2 { w.lane 2 with marks := List.replicate 4 ⟨0#8, .taken⟩ }).lane 2).marks.length := by
  unfold Malformed MarkMalformed
  decide +kernel

theorem test_met_mark :
    (w.lane 14).state.occupied = true ∧ (w.lane 14).inFlight = some (flight 0)
      ∧ (flight 0).phase = .awaiting 0 ∧ (flight 0).resends < (w.lane 14).settings.retryLimit
      ∧ (w.lane 0).inFlight = none ∧ (MarkMalformed [0#8] ∧ MarkMalformed [0#8, 3#8])
      ∧ ({ flight 0 with phase := .due } : InFlight).phase ≠ .awaiting 0 := by
  unfold MarkMalformed
  decide +kernel

theorem test_met_transmitter :
    (∃ m rest, (w.lane 15).marks = m :: rest ∧ (w.lane 15).state.occupied = true ∧ (w.lane 15).txBusy = false)
      ∧ (w.lane 9).marks = [] ∧ (w.lane 5).state.servesOwn = false
      ∧ ((w.lane 14).state.servesOwn = true ∧ (w.lane 14).txBusy = false ∧ (w.lane 14).marks = []
        ∧ (w.lane 14).inFlight = some (flight 0) ∧ (flight 0).phase ≠ .due)
      ∧ (∃ q rest, (w.lane 0).txQueue = q :: rest ∧ (w.lane 0).control = none ∧ (w.lane 0).inFlight = none)
      ∧ ((w.lane 10).control = none ∧ (w.lane 10).txQueue = [] ∧ (w.lane 10).inFlight = none) := by
  refine ⟨⟨_, _, rfl, by decide +kernel, by decide +kernel⟩, by decide +kernel, by decide +kernel,
    by decide +kernel, ⟨_, _, rfl, by decide +kernel, by decide +kernel⟩, by decide +kernel⟩

theorem test_met_send_phases :
    (w.lane 14).inFlight = some (flight 0) ∧ (flight 0).resends < (w.lane 14).settings.retryLimit
      ∧ ({ flight 0 with phase := .sending } : InFlight).phase = .sending
      ∧ ({ flight 0 with phase := .paused 0 } : InFlight).phase = .paused 0
      ∧ (flight 0).phase = .awaiting 0 ∧ (flight 0).phase ≠ .paused 0
      ∧ ({ flight 0 with phase := .awaiting 1 } : InFlight).phase ≠ .awaiting 0 := by
  decide +kernel

theorem test_met_send_failure :
    ((w.lane 2).inFlight = some (flight 8) ∧ (w.lane 2).state = .seated)
      ∧ ((w.lane 11).inFlight = some (flight 8) ∧ (w.lane 11).state = .bound)
      ∧ (flight 8).phase = .awaiting 0 ∧ (w.lane 2).settings.retryLimit ≤ (flight 8).resends := by
  decide +kernel

theorem test_met_pocket :
    ({ w.lane 2 with announce := .running 0, keyPulse := some 0 } : Lane).announce = .running 0
      ∧ ({ w.lane 2 with announce := .running 0, keyPulse := some 0 } : Lane).keyPulse = some 0
      ∧ (w.lane 2).announce ≠ .running 0 ∧ (w.lane 2).keyPulse ≠ some 0 := by
  decide +kernel

theorem test_met_debounced_rise :
    ((w.lane 12).debounce = some 0 ∧ (w.lane 12).rawSeat = true ∧ (w.lane 12).seat = false
        ∧ (w.lane 12).state = .empty)
      ∧ ((w.lane 0).debounce = some 0 ∧ (w.lane 0).rawSeat ≠ (w.lane 0).seat
        ∧ ({ w.lane 0 with state := .off } : Lane).state = .off)
      ∧ (w.lane 2).debounce ≠ some 0 := by
  decide +kernel

/-! ### The dispatcher's destinations: hypotheses met -/

/-- The lawful state with the dispatcher about to take from a lane. -/
def served (i : LaneId) : State := { w with pointer := i - 1 }

/-- The same, with one frame in the lane's buffer. -/
def fed (i : LaneId) (f : RxFrame) : State := (served i).withLane i { w.lane i with rxBuffer := [f] }

theorem test_met_served : ∀ i ∈ [0, 1, 2, 3, 4, 8, 10, 11], Lawful (served i) := fun _ _ =>
  { capacity := ⟨test_w_lawful.capacity.lanes, test_w_lawful.capacity.ingress, test_w_lawful.capacity.urgent,
      test_w_lawful.capacity.bulk, test_w_lawful.capacity.drops⟩
    identity := test_w_lawful.identity, startup := test_w_lawful.startup, engine := test_w_lawful.engine
    arbiter := test_w_lawful.arbiter
    table := ⟨test_w_lawful.table.free, test_w_lawful.table.closing, test_w_lawful.table.ids,
      test_w_lawful.table.distinct⟩
    owing := test_w_lawful.owing }

theorem test_met_hello :
    NextFrame (served 2) 2 (app 0x10#8 [0x43#8]) [] ∧ (w.lane 2).mode = .app ∧ (w.lane 2).identity = none
      ∧ NextFrame (fed 2 (app 0x10#8 [0x42#8])) 2 (app 0x10#8 [0x42#8]) []
      ∧ (∃ j, j ≠ 2 ∧ (w.lane j).state = .bound ∧ (w.lane j).identity = some [0x42#8])
      ∧ NextFrame (fed 2 (app 0x10#8 (List.replicate 25 1#8))) 2 (app 0x10#8 (List.replicate 25 1#8)) []
      ∧ NextFrame (fed 8 (app 0x10#8 [1#8])) 8 (app 0x10#8 [1#8]) [] ∧ (w.lane 8).mode = .loader := by
  unfold NextFrame
  decide +kernel

theorem test_met_rebind :
    NextFrame (served 0) 0 (app 0x10#8 [0x41#8]) [app 0x14#8 [1#8]] ∧ (w.lane 0).state = .bound
      ∧ (w.lane 0).identity = some [0x41#8] := by
  unfold NextFrame
  decide +kernel

theorem test_met_swap :
    (NextFrame (served 3) 3 (app 0x10#8 [0x44#8]) [] ∧ (w.lane 3).identity = some [0x42#8]
        ∧ ¬∃ j, j ≠ 3 ∧ (w.lane j).state = .bound ∧ (w.lane j).identity = some [0x44#8])
      ∧ (NextFrame (served 4) 4 (app 0x10#8 [0x41#8]) [result 3#16 5#8] ∧ (w.lane 4).identity = some [0x42#8]
        ∧ ∃ j, j ≠ 4 ∧ (w.lane j).state = .bound ∧ (w.lane j).identity = some [0x41#8]) := by
  unfold NextFrame
  decide +kernel

theorem test_met_matched_result :
    NextFrame (served 1) 1 (result 1#16 5#8) [result 1#16 6#8] ∧ ⟨1#16, 0⟩ ∈ (w.lane 1).outstanding
      ∧ halfAt (result 1#16 5#8).payload 0 = 1#16 ∧ byteAt (result 1#16 5#8).payload 2 = (w.record 0).tag
      ∧ (w.record 0).members[(1 : LaneId)].isSome = true := by
  unfold NextFrame
  decide +kernel

theorem test_met_stray_and_late :
    (∀ e ∈ (w.lane 1).outstanding, e.stepId ≠ 9#16) ∧ (∀ e ∈ (w.lane 1).outstanding, e.stepId ≠ 3#16)
      ∧ (w.record 2).state ≠ .opened ∧ (w.record 2).stepId = some 3#16 := by
  decide +kernel

theorem test_met_bad_tag_and_text :
    NextFrame (fed 1 (result 1#16 6#8)) 1 (result 1#16 6#8) []
      ∧ byteAt (result 1#16 6#8).payload 2 ≠ (w.record 0).tag
      ∧ NextFrame (served 10) 10 (app 0x12#8 []) [app 0x13#8 [1#8]]
      ∧ NextFrame (served 8) 8 ⟨.loader, 0x12#8, 1#8, []⟩ [] := by
  unfold NextFrame
  decide +kernel

theorem test_met_claim :
    (NextFrame (fed 10 (app 0x13#8 [1#8])) 10 (app 0x13#8 [1#8]) [] ∧ (w.lane 10).state ≠ .bound)
      ∧ (NextFrame (fed 1 (app 0x13#8 [1#8])) 1 (app 0x13#8 [1#8]) [] ∧ inSet (w.instrument 0).waiting 1 = true)
      ∧ (NextFrame (fed 11 (app 0x13#8 [1#8])) 11 (app 0x13#8 [1#8]) [] ∧ (w.instrument 0).holder = some 0)
      ∧ (NextFrame (served 11) 11 (app 0x13#8 [2#8]) [app 0x14#8 [2#8]] ∧ (w.instrument 1).enabled = true
        ∧ (w.instrument 1).holder = none ∧ inSet (w.instrument 1).waiting 11 = false) := by
  unfold NextFrame
  decide +kernel

theorem test_met_release_and_hold_expiry :
    (NextFrame (fed 11 (app 0x14#8 [2#8])) 11 (app 0x14#8 [2#8]) [] ∧ inSet (w.instrument 1).revoked 11 = true)
      ∧ (NextFrame (fed 11 (app 0x14#8 [1#8])) 11 (app 0x14#8 [1#8]) [] ∧ (w.instrument 0).holder ≠ some 11
        ∧ inSet (w.instrument 0).revoked 11 = false)
      ∧ (NextFrame (fed 0 (app 0x14#8 [1#8])) 0 (app 0x14#8 [1#8]) [] ∧ (w.instrument 0).holder = some 0
        ∧ firstAfter (w.instrument 0).lastGranted (w.instrument 0).waiting = some 1
        ∧ (w.instrument 0).holdTimer = some 0)
      ∧ (w.instrument 1).holdTimer ≠ some 0
      ∧ firstAfter (w.instrument 0).lastGranted 0#16 = none := by
  unfold NextFrame
  decide +kernel

/-! ### Beacon, arithmetic and laws: hypotheses met -/

theorem test_met_beacon :
    ({ w with intervalTimer := some 0 } : State).intervalTimer = some 0
      ∧ ({ w with spacingTimer := some 0, earlyRequest := true } : State).earlyRequest = true
      ∧ w.earlyRequest = false ∧ w.beaconDue = false ∧ w.intervalTimer ≠ some 0 ∧ w.spacingTimer ≠ some 0
      ∧ State.reset.beaconDue = true ∧ urgentTaken State.reset < 32 := by
  decide +kernel

theorem test_met_statistics : statistics [-3, 4] = some ⟨2, -3, 4, 1⟩ := by decide +kernel

/-- One CRITICAL entry of kind FIELD at index 7, for group 1 and tag 5. -/
def oneEntry : Vector LimitEntry 256 :=
  State.reset.limits.set 7
    { LimitEntry.reset with valid := true, group := 1#8, tag := 5#8, kind := 2#8, severity := 1#8 }

theorem test_met_applied_entry :
    (judge oneEntry 1#8 5#8 none (resultOfPayload [0#8, 0#8, 5#8, 1#8, 0#8])).verdict ≠ .none := by
  decide +kernel

/-- Every branch of O56 on a field: a missing one, an exponent past 12, a value the entry's exponent carries out of
range, and one that is judged; and the three blobs of a DIGEST entry. -/
theorem test_met_entry_kinds :
    (resultOfPayload [0#8, 0#8, 5#8, 1#8, 0#8]).fields[0]? = none
      ∧ ((resultOfPayload [0#8, 0#8, 5#8, 1#8, 1#8, 1#8, 0#8, 0#8, 0#8, 13#8]).fields[0]?
        = some { value := 1, exponent := 13 })
      ∧ (rescale 1 (12 - (-12))).clamped = true ∧ (rescale 2147483647 0).clamped = false
      ∧ (resultOfPayload [0#8, 0#8, 5#8, 1#8, 0#8]).blob = []
      ∧ digest (resultOfPayload [0#8, 0#8, 5#8, 1#8, 0#8, 0x00#8]).blob = 0xE1F0#16 := by
  decide +kernel

theorem test_met_laws :
    step w = .next w.passMs ∧ (w.lane 0).identity ≠ none ∧ w.pending.head? ≠ some .clearVerdict
      ∧ ∀ c rest, ({ w with pending := [.summaryEnqueue] } : State).pending = c :: rest →
        (∀ straps seats, c ≠ .powerOn straps seats) ∧ ∀ straps, c ≠ .reset straps := by
  refine ⟨rfl, by decide +kernel, by decide +kernel, ?_⟩
  rintro c rest h
  cases h
  simp

end Sys2Proof.Tests
end

section
/-! PROOFS of the family of seating and the roster: what the loss of a lane does, operation by operation (the egress
queues and events, the step table, the arbiter), put together as `LaneLoss`; then the rebind. -/

namespace Sys2Proof

open Sys2Proof.Machine

/-! ### The dispatcher takes the frame the statements name (R48) -/

theorem nextFrame_eq_of_nextFrame {s : State} {i : LaneId} {f : RxFrame} {rest : List RxFrame}
    (h : NextFrame s i f rest) : s.nextFrame = some (i, f) := by
  obtain ⟨hbuf, hempty⟩ := h
  let d : LaneId := i - s.pointer - 1
  have hd : s.pointer + 1 + d = i := by simp only [d, sub_sub, add_sub_cancel]
  have hdlen : d.val < laneIds.length := by simp [laneIds]
  have hget : laneIds[d.val] = d := by simp [laneIds]
  have hsplit : laneIds = laneIds.take d.val ++ d :: laneIds.drop (d.val + 1) := by
    conv_lhs => rw [← List.take_append_drop d.val laneIds, List.drop_eq_getElem_cons hdlen, hget]
  unfold State.nextFrame rotationAfter
  rw [List.findSome?_map, List.findSome?_eq_some_iff]
  refine ⟨_, d, _, hsplit, by simp [hd, hbuf], fun e he => ?_⟩
  obtain ⟨k, hk, rfl⟩ := List.mem_take_iff_getElem.1 he
  have hlt : k < d.val := by omega
  have hback : (s.pointer + 1 + laneIds[k]) - s.pointer - 1 = laneIds[k] := by abel
  have hbufe : (s.lane (s.pointer + 1 + laneIds[k])).rxBuffer = [] := by
    apply hempty
    rw [hback]
    simpa [laneIds] using hlt
  simp [hbufe]

/-- A destination acts on the frame the rotation reaches, after it has left its buffer (R48, R49). -/
theorem dispatch_of_nextFrame {s : State} {i : LaneId} {f : RxFrame} {rest : List RxFrame}
    {mine : RxFrame → Bool} {act : LaneId → RxFrame → State → State} (h : NextFrame s i f rest)
    (hm : mine f = true) : s.dispatch mine act = act i f (s.dispatched i) := by
  simp [State.dispatch, nextFrame_eq_of_nextFrame h, hm]

/-! ### Reports and events, one after another (R165, R187, R189) -/

theorem UrgentOffered.refl (s : State) : UrgentOffered s s [] := by
  simp [UrgentOffered]

theorem UrgentOffered.trans {s t u : State} {a b : List UrgentReport} (hst : UrgentOffered s t a)
    (htu : UrgentOffered t u b) (hres : t.answerReserved = s.answerReserved) :
    UrgentOffered s u (a ++ b) := by
  obtain ⟨hq, hd⟩ := hst
  obtain ⟨hq', hd'⟩ := htu
  have hroom : 32 - urgentTaken t = 32 - urgentTaken s - a.length := by
    simp only [urgentTaken, hq, hres, List.length_append, List.length_take]
    omega
  constructor
  · rw [hq', hq, List.append_assoc, hroom, List.take_append]
  · rw [hd', hroom, hd, List.length_append]
    omega

theorem offerUrgent_offered (s : State) (r : UrgentReport) : UrgentOffered s (s.offerUrgent r) [r] := by
  rcases offerUrgent_cases s r with ⟨hroom, h⟩ | ⟨hfull, h⟩ <;> rw [h]
  · obtain ⟨n, hn⟩ : ∃ n, 32 - urgentTaken s = n + 1 := ⟨31 - urgentTaken s, by omega⟩
    simp [UrgentOffered, hn]
  · have hn : 32 - urgentTaken s = 0 := by omega
    refine ⟨by simp [hn], ?_⟩
    simp only [hn, satIncr, Config.counterMax, List.length_singleton]
    by_cases hmax : s.urgentDrops < 65535 <;> simp only [hmax, if_true, if_false] <;> omega

theorem EventsRecorded.refl (s : State) : EventsRecorded s s [] := by
  simp [EventsRecorded]

theorem EventsRecorded.trans {s t u : State} {a b : List (LaneId × EventKind)} (hst : EventsRecorded s t a)
    (htu : EventsRecorded t u b) (hmask : t.noticeMask = s.noticeMask)
    (hspace : t.spacingTimer = s.spacingTimer) : EventsRecorded s u (a ++ b) := by
  obtain ⟨hh, hr⟩ := hst
  obtain ⟨hh', hr'⟩ := htu
  refine ⟨fun i => by rw [hh', hh, List.foldl_append], ?_⟩
  have hex : (∃ e ∈ a ++ b, hasEvent s.noticeMask e.2 = true) ↔
      (∃ e ∈ a, hasEvent s.noticeMask e.2 = true) ∨ ∃ e ∈ b, hasEvent s.noticeMask e.2 = true := by
    simp only [List.mem_append, or_and_right, exists_or]
  rw [hmask, hspace] at hr'
  simp only [hex]
  cases hdue : s.beaconDue with
  | true => simp_all
  | false =>
    by_cases ha : ∃ e ∈ a, hasEvent s.noticeMask e.2 = true
    · by_cases hs : s.spacingTimer = none <;> simp_all
    · simp only [ha, and_false, if_false] at hr
      obtain ⟨hsame, htimer, hearly⟩ := hr
      rw [hsame, htimer, hearly, hdue] at hr'
      simpa only [ha, false_or] using hr'

/-- One event (R187, R189). -/
theorem recordEvent_recorded (s : State) (i : LaneId) (k : EventKind) :
    EventsRecorded s (s.recordEvent i k) [(i, k)] := by
  constructor
  · intro j
    rw [recordEvent_holding]
    by_cases h : i = j
    · subst h; simp
    · have hv : i.val ≠ j.val := fun e => h (Fin.ext e)
      simp [h, hv]
  · unfold State.recordEvent
    dsimp only
    cases hm : hasEvent s.noticeMask k
    · simp [hm]
    · rcases requestEarly_cases { s with holding := s.holding.set i (withEvent s.holding[i] k) } with
        ⟨hd, h⟩ | ⟨hd, hs, h⟩ | ⟨hd, hs, h⟩ <;> simp_all

/-! ### Records that close one after another (R67, R83, R90) -/

/-- The summaries that can enter bulk egress at once (R90). -/
def Machine.State.summaryRoom (s : State) : Nat := if s.closing = [] then 64 - s.bulk.length else 0

/-- `ClosedInto` with its room named. -/
theorem closedInto_iff (s t : State) (l : List RecordId) : ClosedInto s t l ↔
    t.bulk = s.bulk ++ (l.take s.summaryRoom).map (fun r => .summary (summaryOf (t.record r)))
      ∧ t.freeOrder = s.freeOrder ++ l.take s.summaryRoom
      ∧ t.closing = s.closing ++ l.drop s.summaryRoom
      ∧ (∀ r ∈ l.take s.summaryRoom, (t.record r).state = .free)
      ∧ ∀ r ∈ l.drop s.summaryRoom, (t.record r).state = .closing := Iff.rfl

theorem ClosedInto.nil_of_eq {s t : State} (hb : t.bulk = s.bulk) (hf : t.freeOrder = s.freeOrder)
    (hc : t.closing = s.closing) : ClosedInto s t [] := by
  simp [closedInto_iff, hb, hf, hc]

/-- Every record that closes takes one place of the room. -/
theorem ClosedInto.summaryRoom_eq {s t : State} {l : List RecordId} (h : ClosedInto s t l) :
    t.summaryRoom = s.summaryRoom - l.length := by
  obtain ⟨hb, -, hc, -, -⟩ := (closedInto_iff s t l).1 h
  have hempty : t.closing = [] ↔ s.closing = [] ∧ l.length ≤ s.summaryRoom := by
    rw [hc, List.append_eq_nil_iff, List.drop_eq_nil_iff]
  have hlen : t.bulk.length = s.bulk.length + min s.summaryRoom l.length := by simp [hb]
  unfold State.summaryRoom at hempty hlen ⊢
  by_cases hs : s.closing = []
  · simp only [hs, if_true, true_and] at hempty hlen ⊢
    by_cases hfit : l.length ≤ 64 - s.bulk.length
    · rw [if_pos (hempty.2 hfit)]; omega
    · rw [if_neg (fun h => hfit (hempty.1 h))]; omega
  · simp [hs, hempty]

theorem ClosedInto.trans {s t u : State} {a b : List RecordId} (hst : ClosedInto s t a)
    (htu : ClosedInto t u b) (hkeep : ∀ r ∈ a, u.record r = t.record r) : ClosedInto s u (a ++ b) := by
  have hroom := hst.summaryRoom_eq
  obtain ⟨hb, hf, hc, hfree, hclosing⟩ := (closedInto_iff s t a).1 hst
  obtain ⟨hb', hf', hc', hfree', hclosing'⟩ := (closedInto_iff t u b).1 htu
  rw [hroom] at hb' hf' hc' hfree' hclosing'
  have hkept : (a.take s.summaryRoom).map (fun r => BulkReport.summary (summaryOf (t.record r))) =
      (a.take s.summaryRoom).map fun r => .summary (summaryOf (u.record r)) :=
    List.map_congr_left fun r hr => by rw [hkeep r (List.mem_of_mem_take hr)]
  rw [closedInto_iff, List.take_append, List.drop_append]
  refine ⟨?_, ?_, ?_, fun r hr => ?_, fun r hr => ?_⟩
  · rw [hb', hb, hkept, List.map_append, List.append_assoc]
  · rw [hf', hf, List.append_assoc]
  · rw [hc', hc, List.append_assoc]
  · rcases List.mem_append.1 hr with hr | hr
    · rw [hkeep r (List.mem_of_mem_take hr)]; exact hfree r hr
    · exact hfree' r hr
  · rcases List.mem_append.1 hr with hr | hr
    · rw [hkeep r (List.mem_of_mem_drop hr)]; exact hclosing r hr
    · exact hclosing' r hr

/-- The SUMMARY the model builds is the one the statements describe (R88, R89). -/
theorem summary_eq_summaryOf (n : StepRecord) : n.summary = summaryOf n := by
  simp only [StepRecord.summary, summaryOf, StepRecord.memberList, laneIds, List.filterMap_filterMap]
  congr 3
  funext i
  cases n.members[i] <;> rfl

/-- A step that closes (R67, R90). -/
theorem closeStep_closedInto (s : State) (r : RecordId) (c : CloseCause) :
    ClosedInto s (s.closeStep r c) [r] := by
  have hlists := closeStep_lists s r c
  have hrec := closeStep_record_self s r c
  rw [summary_eq_summaryOf] at hlists
  rw [closedInto_iff]
  unfold State.summaryRoom
  by_cases hroom : s.closing = [] ∧ s.bulk.length < 64
  · obtain ⟨n, hn⟩ : ∃ n, 64 - s.bulk.length = n + 1 := ⟨63 - s.bulk.length, by omega⟩
    rw [if_pos hroom] at hlists hrec
    obtain ⟨hc, hf, hb⟩ := hlists
    simp [hroom.1, hn, hc, hf, hb, hrec]
  · have hn : (if s.closing = [] then 64 - s.bulk.length else 0) = 0 := by
      split
      · simp_all
      · rfl
    rw [if_neg hroom] at hlists hrec
    obtain ⟨hc, hf, hb⟩ := hlists
    simp [hn, hc, hf, hb, hrec]

/-! ### A lane's outstanding entries lost, oldest first (R82, R83) -/

/-- No other member of a record owes. -/
def Machine.StepRecord.owedByNoneBut (n : StepRecord) (i : LaneId) : Bool :=
  (List.finRange 16).all fun j => j == i || !n.owes j

/-- The steps the loss of a list of a lane's entries closes, in their order (R83). -/
def Machine.State.closedByLoss (s : State) (i : LaneId) (l : List OutEntry) : List RecordId :=
  (l.filter fun e => (s.record e.record).owedByNoneBut i).map OutEntry.record

theorem lossCloses_eq (s : State) (i : LaneId) : lossCloses s i = s.closedByLoss i (s.lane i).outstanding := rfl

/-- What the loss of a lane's entry leaves of its step's record, which closes in state `st` or stays OPEN. -/
def Machine.StepRecord.afterLoss (n : StepRecord) (i : LaneId) (o : MemberOutcome) (closes : Bool)
    (st : RecordState) : StepRecord :=
  { n with
    members := Vector.ofFn fun j =>
      if j = i then n.members[j].map fun m => { m with outcome := o } else n.members[j]
    state := if closes then st else n.state
    deadline := if closes then none else n.deadline
    cause := if closes then some .complete else n.cause }

/-- The step table after the loss of a list of a lane's entries, and where the records that closed went. -/
def EntriesLost (s t : State) (i : LaneId) (o : MemberOutcome) (l : List OutEntry) : Prop :=
  (∀ r : RecordId, t.record r =
      if r ∈ l.map OutEntry.record then
        (s.record r).afterLoss i o ((s.record r).owedByNoneBut i) (t.record r).state
      else s.record r)
    ∧ ClosedInto s t (s.closedByLoss i l)

/-- Entries of a lane as the step table has them: each names an OPEN step the lane owes, and no step twice (R60). -/
def EntriesOwed (s : State) (i : LaneId) (l : List OutEntry) : Prop :=
  (∀ e ∈ l, (s.record e.record).state = .opened ∧ (s.record e.record).owes i = true)
    ∧ (l.map OutEntry.record).Nodup

theorem OwingLaw.entriesOwed {s : State} (h : OwingLaw s) (i : LaneId) :
    EntriesOwed s i (s.lane i).outstanding := by
  obtain ⟨hentry, hnodup, -⟩ := h i
  refine ⟨fun e he => ?_, hnodup⟩
  obtain ⟨hopen, -, howes⟩ := hentry e he
  exact ⟨hopen, howes⟩

theorem updMember_members (n : StepRecord) (i : LaneId) (f : Member → Member) :
    n.updMember i f =
      { n with members := Vector.ofFn fun j => if j = i then n.members[j].map f else n.members[j] } := by
  unfold StepRecord.updMember
  congr 1
  apply Vector.ext
  intro k hk
  by_cases h : i.val = k
  · subst h; simp
  · have hne : (⟨k, hk⟩ : LaneId) ≠ i := fun e => h (by rw [← e])
    simp [h, hne]

/-- With its outcome no longer owing, a member leaves a step that owes nothing exactly where no other member owes. -/
theorem owing_updMember_eq_nil_iff {n : StepRecord} {i : LaneId} {o : MemberOutcome} (ho : o.owing = false) :
    (n.updMember i fun m => { m with outcome := o }).owing = [] ↔ n.owedByNoneBut i = true := by
  have howes : ∀ j, (n.updMember i fun m => { m with outcome := o }).owes j =
      if j = i then false else n.owes j := by
    intro j
    rw [updMember_members]
    by_cases h : j = i
    · subst h
      cases hm : n.members[j.val] <;> simp [StepRecord.owes, hm, ho]
    · simp [StepRecord.owes, h]
  simp only [StepRecord.owing, StepRecord.owedByNoneBut, List.filter_eq_nil_iff, List.all_eq_true, laneIds,
    List.mem_finRange, forall_const, howes, Bool.or_eq_true, beq_iff_eq, Bool.not_eq_true']
  refine forall_congr' fun j => ?_
  by_cases h : j = i <;> simp [h]

/-- One entry lost: the member takes the outcome, and the step closes where no other member owes (R82, R83). -/
theorem loseEntry_entriesLost {s : State} {i : LaneId} {o : MemberOutcome} {e : OutEntry}
    (ho : o.owing = false) (he : EntriesOwed s i [e]) :
    EntriesLost s (State.loseEntry i o s e) i o [e] := by
  obtain ⟨hopen, howes⟩ := he.1 e (by simp)
  have hset : s.setOutcome e.record i o =
      s.updRecord e.record fun n => n.updMember i fun m => { m with outcome := o } := by
    simp [State.setOutcome, hopen, howes]
  let u := (s.setOutcome e.record i o).updLane i fun l => l.dropEntry e.record
  have hrec : u.record e.record = (s.record e.record).updMember i fun m => { m with outcome := o } := by
    simp [u, hset]
  have hsu : ClosedInto s u [] := ClosedInto.nil_of_eq (by simp [u, hset]) (by simp [u, hset]) (by simp [u, hset])
  have hlose : State.loseEntry i o s e = u.closingCheck e.record := rfl
  have hself : (State.loseEntry i o s e).record e.record =
        (s.record e.record).afterLoss i o ((s.record e.record).owedByNoneBut i)
          ((State.loseEntry i o s e).record e.record).state
      ∧ ClosedInto s (State.loseEntry i o s e) (s.closedByLoss i [e]) := by
    rw [hlose, State.closedByLoss]
    cases hlast : (s.record e.record).owedByNoneBut i with
    | true =>
      have hclose : u.closingCheck e.record = u.closeStep e.record .complete :=
        if_pos ⟨by rw [hrec]; exact hopen, by rw [hrec]; exact (owing_updMember_eq_nil_iff ho).2 hlast⟩
      rw [hclose]
      constructor
      · rw [closeStep_record_self, hrec, updMember_members]; rfl
      · simpa [hlast] using hsu.trans (closeStep_closedInto u e.record .complete) (by simp)
    | false =>
      have hstay : u.closingCheck e.record = u :=
        if_neg fun h => by
          rw [hrec, owing_updMember_eq_nil_iff ho, hlast] at h
          exact Bool.false_ne_true h.2
      rw [hstay]
      constructor
      · rw [hrec, updMember_members]; rfl
      · simpa [hlast] using hsu
  refine ⟨fun r => ?_, hself.2⟩
  by_cases hr : r = e.record
  · subst hr; simpa using hself.1
  · simpa [hr] using loseEntry_record_of_ne i o s e hr

theorem closedByLoss_congr {s t : State} {i : LaneId} {l : List OutEntry}
    (h : ∀ e ∈ l, t.record e.record = s.record e.record) : t.closedByLoss i l = s.closedByLoss i l := by
  unfold State.closedByLoss
  congr 1
  exact List.filter_congr fun e he => by rw [h e he]

/-- Every entry of a list lost, oldest first. -/
theorem foldl_loseEntry_entriesLost {i : LaneId} {o : MemberOutcome} (ho : o.owing = false) (l : List OutEntry)
    (s : State) (h : EntriesOwed s i l) : EntriesLost s (l.foldl (State.loseEntry i o) s) i o l := by
  induction l generalizing s with
  | nil => exact ⟨fun r => by simp, ClosedInto.nil_of_eq rfl rfl rfl⟩
  | cons e l ih =>
    obtain ⟨howed, hnodup⟩ := h
    rw [List.map_cons, List.nodup_cons] at hnodup
    obtain ⟨hfresh, hnodup⟩ := hnodup
    obtain ⟨hrec, hclosed⟩ := loseEntry_entriesLost ho (s := s) (e := e) (i := i)
      ⟨fun x hx => howed x (by simp_all), by simp⟩
    have hsame : ∀ r ∈ l.map OutEntry.record, (State.loseEntry i o s e).record r = s.record r :=
      fun r hr => loseEntry_record_of_ne i o s e fun h => hfresh (h ▸ hr)
    have hsame' : ∀ x ∈ l, (State.loseEntry i o s e).record x.record = s.record x.record :=
      fun x hx => hsame _ (List.mem_map_of_mem hx)
    obtain ⟨hrec', hclosed'⟩ := ih (State.loseEntry i o s e)
      ⟨fun x hx => by rw [hsame' x hx]; exact howed x (List.mem_cons_of_mem _ hx), hnodup⟩
    rw [List.foldl_cons]
    have hkeep : (l.foldl (State.loseEntry i o) (State.loseEntry i o s e)).record e.record =
        (State.loseEntry i o s e).record e.record := by
      rw [hrec', if_neg hfresh]
    refine ⟨fun r => ?_, ?_⟩
    · by_cases hr : r ∈ l.map OutEntry.record
      · have hlost := hrec' r
        rw [if_pos hr, hsame r hr] at hlost
        rw [if_pos (by simp [hr])]
        exact hlost
      · by_cases hre : r = e.record
        · subst hre
          rw [hkeep, if_pos (by simp)]
          simpa using hrec e.record
        · rw [hrec' r, if_neg hr, hrec r]
          simp [hr, hre]
    · rw [closedByLoss_congr hsame'] at hclosed'
      have hsplit : s.closedByLoss i (e :: l) = s.closedByLoss i [e] ++ s.closedByLoss i l := by
        rw [← List.singleton_append]; simp only [State.closedByLoss, List.filter_append, List.map_append]
      rw [hsplit]
      refine hclosed.trans hclosed' fun r hr => ?_
      have hre : r = e.record := by
        simp only [State.closedByLoss, List.mem_map, List.mem_filter, List.mem_singleton] at hr
        obtain ⟨x, ⟨rfl, -⟩, rfl⟩ := hr
        rfl
      rw [hre, hkeep]

/-- A lane loss on the step table (R82, R83). -/
theorem loseEntries_entriesLost {s : State} {i : LaneId} {o : MemberOutcome} (ho : o.owing = false)
    (h : EntriesOwed s i (s.lane i).outstanding) :
    EntriesLost s (s.loseEntries i o) i o (s.lane i).outstanding :=
  foldl_loseEntry_entriesLost ho _ s h

/-! ### What the arbiter leaves as it stands -/

theorem Machine.ArbiterFrame.answerReserved_eq {s t : State} (h : ArbiterFrame s t) :
    t.answerReserved = s.answerReserved := by rw [h]

theorem Machine.ArbiterFrame.noticeMask_eq {s t : State} (h : ArbiterFrame s t) :
    t.noticeMask = s.noticeMask := by rw [h]

theorem Machine.ArbiterFrame.spacingTimer_eq {s t : State} (h : ArbiterFrame s t) :
    t.spacingTimer = s.spacingTimer := by rw [h]

/-! ### Lane sets -/

theorem removeLane_of_not_inSet {w : LaneSet} {i : LaneId} (h : inSet w i = false) : removeLane w i = w := by
  unfold inSet at h
  unfold removeLane
  ext k hk
  by_cases hik : i.val = k
  · subst hik
    simpa using h.symm
  · have hki : k ≠ i.val := Ne.symm hik
    simp [BitVec.getElem_twoPow, hki]

theorem removeLane_comm (w : LaneSet) (i j : LaneId) :
    removeLane (removeLane w i) j = removeLane (removeLane w j) i := by
  simp only [removeLane, BitVec.and_assoc]
  rw [BitVec.and_comm (~~~BitVec.twoPow 16 i.val)]

/-! ### What the loss of a lane does to a list of instruments (R146, R150, R155) -/

/-- The reports one instrument makes of the loss of a lane (R155). -/
def instrumentLossReports (k : InstrumentId) (n : Instrument) (i : LaneId) : List UrgentReport :=
  if n.holder = some i then
    .instrument k .dropped i 0 n.waiting ::
      (nextOf n).toList.map fun j => .instrument k .granted j n.holdLimit (removeLane n.waiting j)
  else []

/-- The events of those reports (R155). -/
def instrumentLossEvents (n : Instrument) (i : LaneId) : List (LaneId × EventKind) :=
  if n.holder = some i then (i, .instrument) :: (nextOf n).toList.map fun j => (j, .instrument) else []

/-- The control slot of a lane after a list of instruments has lost a lane (R145). -/
def Machine.State.controlAfterLossOf (s : State) (ks : List InstrumentId) (i j : LaneId) : Option ControlFrame :=
  ((ks.filter fun k =>
      (s.instrument k).holder = some i ∧ nextOf (s.instrument k) = some j).getLast?.map fun k =>
    { kind := .grant, instrument := k }).or (s.lane j).control

/-- A list of instruments has lost a lane. -/
structure InstrumentsLost (s t : State) (i : LaneId) (ks : List InstrumentId) : Prop where
  instruments : ∀ m : InstrumentId,
    t.instrument m = if m ∈ ks then afterLoss (s.instrument m) i else s.instrument m
  lanes : ∀ j : LaneId, t.lane j = { s.lane j with control := s.controlAfterLossOf ks i j }
  reports : UrgentOffered s t (ks.flatMap fun k => instrumentLossReports k (s.instrument k) i)
  events : EventsRecorded s t (ks.flatMap fun k => instrumentLossEvents (s.instrument k) i)

theorem InstrumentsLost.trans {s t u : State} {i : LaneId} {a b : List InstrumentId}
    (hst : InstrumentsLost s t i a) (htu : InstrumentsLost t u i b) (hframe : ArbiterFrame s t)
    (hdisjoint : ∀ m ∈ b, m ∉ a) : InstrumentsLost s u i (a ++ b) := by
  have hsame : ∀ m ∈ b, t.instrument m = s.instrument m := fun m hm => by
    rw [hst.instruments, if_neg (hdisjoint m hm)]
  refine ⟨fun m => ?_, fun j => ?_, ?_, ?_⟩
  · rw [htu.instruments]
    by_cases hm : m ∈ b
    · simp [hm, hsame m hm]
    · simp [hm, hst.instruments]
  · have hfilter : (b.filter fun k => (t.instrument k).holder = some i ∧ nextOf (t.instrument k) = some j) =
        b.filter fun k => (s.instrument k).holder = some i ∧ nextOf (s.instrument k) = some j :=
      List.filter_congr fun k hk => by rw [hsame k hk]
    rw [htu.lanes, hst.lanes]
    simp only [State.controlAfterLossOf, hfilter, hst.lanes, List.filter_append, List.getLast?_append,
      Option.map_or, Option.or_assoc]
  · have hreports := htu.reports
    rw [List.flatMap_congr fun k hk => by rw [hsame k hk]] at hreports
    rw [List.flatMap_append]
    exact hst.reports.trans hreports (hframe.answerReserved_eq)
  · have hevents := htu.events
    rw [List.flatMap_congr fun k hk => by rw [hsame k hk]] at hevents
    rw [List.flatMap_append]
    exact hst.events.trans hevents (hframe.noticeMask_eq) (hframe.spacingTimer_eq)

theorem UrgentOffered.updInstrument_right {s t : State} {l : List UrgentReport} (h : UrgentOffered s t l)
    (k : InstrumentId) (f : Instrument → Instrument) : UrgentOffered s (t.updInstrument k f) l := h

theorem EventsRecorded.updInstrument_right {s t : State} {l : List (LaneId × EventKind)}
    (h : EventsRecorded s t l) (k : InstrumentId) (f : Instrument → Instrument) :
    EventsRecorded s (t.updInstrument k f) l := h

theorem reportInstrument_offered (s : State) (k : InstrumentId) (e : InstrumentEvent) (i : LaneId) (n : Nat) :
    UrgentOffered s (s.reportInstrument k e i n) [.instrument k e i n (s.instrument k).waiting] := by
  have h := offerUrgent_offered s (.instrument k e i n (s.instrument k).waiting)
  rw [State.reportInstrument, recordEvent_frame]
  exact h

theorem reportInstrument_recorded (s : State) (k : InstrumentId) (e : InstrumentEvent) (i : LaneId) (n : Nat) :
    EventsRecorded s (s.reportInstrument k e i n) [(i, .instrument)] := by
  have h := recordEvent_recorded (s.offerUrgent (.instrument k e i n (s.instrument k).waiting)) i .instrument
  unfold State.reportInstrument
  rcases offerUrgent_cases s (.instrument k e i n (s.instrument k).waiting) with ⟨-, hs⟩ | ⟨-, hs⟩ <;>
    rw [hs] at h ⊢ <;> exact h

/-- The next holder of a freed instrument is granted with its report and event, or nothing happens (R146, R155). -/
theorem chooseNext_spec (s : State) (k : InstrumentId) :
    ((s.chooseNext k).instrument k =
        (nextOf (s.instrument k)).elim (s.instrument k) (s.instrument k).granted)
      ∧ (∀ m, m ≠ k → (s.chooseNext k).instrument m = s.instrument m)
      ∧ (∀ j, (s.chooseNext k).lane j =
        if nextOf (s.instrument k) = some j then
          { s.lane j with control := some { kind := .grant, instrument := k } }
        else s.lane j)
      ∧ UrgentOffered s (s.chooseNext k) ((nextOf (s.instrument k)).toList.map fun j =>
          .instrument k .granted j (s.instrument k).holdLimit (removeLane (s.instrument k).waiting j))
      ∧ EventsRecorded s (s.chooseNext k) ((nextOf (s.instrument k)).toList.map fun j => (j, .instrument)) := by
  rcases chooseNext_cases s k with ⟨j, hnext, h⟩ | ⟨hnext, h⟩
  · have hnext' : nextOf (s.instrument k) = some j := hnext
    let g := (s.updInstrument k fun n => n.granted j).placeControl j .grant k
    have hwaiting : (g.instrument k).waiting = removeLane (s.instrument k).waiting j := by
      simp [g, State.placeControl, Instrument.granted]
    rw [hnext', h]
    refine ⟨by simp [grant_instrument], fun m hm => by simp [grant_instrument, hm], fun j' => ?_, ?_, ?_⟩
    · rw [grant_lane]
      by_cases hj : j' = j
      · subst hj; simp
      · simp [hj, Ne.symm hj]
    · have hoffer := reportInstrument_offered g k .granted j (s.instrument k).holdLimit
      rw [hwaiting] at hoffer
      exact hoffer
    · exact reportInstrument_recorded g k .granted j (s.instrument k).holdLimit
  · have hnext' : nextOf (s.instrument k) = none := hnext
    rw [hnext', h]
    exact ⟨rfl, fun _ _ => rfl, fun _ => rfl, UrgentOffered.refl s, EventsRecorded.refl s⟩

/-- One instrument loses a lane that is not waiting for what it holds (R150). -/
theorem loseInstrument_instrumentsLost {s : State} {i : LaneId} {k : InstrumentId}
    (hwait : (s.instrument k).holder = some i → inSet (s.instrument k).waiting i = false) :
    InstrumentsLost s (State.loseInstrument i s k) i [k] := by
  by_cases hholder : (s.instrument k).holder = some i
  · let d := (s.updInstrument k Instrument.freed).reportInstrument k .dropped i 0
    have hfreed : d.instrument k = (s.instrument k).freed := by simp [d]
    have hnext : nextOf (d.instrument k) = nextOf (s.instrument k) := by rw [hfreed]; rfl
    have hlose : State.loseInstrument i s k = (d.chooseNext k).updInstrument k fun n =>
        { n with waiting := removeLane n.waiting i, revoked := removeLane n.revoked i } := by
      simp [State.loseInstrument, hholder, d]
    have hframe : ArbiterFrame s d :=
      (updInstrument_frame s k Instrument.freed).trans (reportInstrument_frame _ k .dropped i 0)
    have hdropped : UrgentOffered s d [.instrument k .dropped i 0 (s.instrument k).waiting] := by
      have hreport := reportInstrument_offered (s.updInstrument k Instrument.freed) k .dropped i 0
      rw [State.instrument_updInstrument_self] at hreport
      exact hreport
    have hdropEvent : EventsRecorded s d [(i, .instrument)] :=
      reportInstrument_recorded (s.updInstrument k Instrument.freed) k .dropped i 0
    obtain ⟨hself, hother, hlanes, hoffered, hrecorded⟩ := chooseNext_spec d k
    rw [hnext] at hself hlanes hoffered hrecorded
    rw [hfreed] at hself hoffered
    have hgone := removeLane_of_not_inSet (hwait hholder)
    rw [hlose]
    refine ⟨fun m => ?_, fun j => ?_, ?_, ?_⟩
    · by_cases hm : m = k
      · subst hm
        rw [State.instrument_updInstrument_self, hself]
        cases hn : nextOf (s.instrument m) with
        | none => simp [afterLoss, hholder, hn, Instrument.freed, hgone]
        | some j =>
          simp [afterLoss, hholder, hn, Instrument.freed, Instrument.granted, grantedTo, holdTimerOf,
            removeLane_comm _ j i, hgone]
      · rw [State.instrument_updInstrument_of_ne _ _ hm, hother m hm]
        simp [hm, d, State.instrument_updInstrument_of_ne]
    · have hd : d.lane j = s.lane j := by simp [d]
      rw [State.lane_updInstrument, hlanes, hd]
      by_cases hj : nextOf (s.instrument k) = some j
      · simp [State.controlAfterLossOf, hholder, hj]
      · simp [State.controlAfterLossOf, hj]
    · have hboth := hdropped.trans hoffered (hframe.answerReserved_eq)
      simpa [instrumentLossReports, hholder, Instrument.freed] using hboth.updInstrument_right k _
    · have hboth := hdropEvent.trans hrecorded (hframe.noticeMask_eq)
        (hframe.spacingTimer_eq)
      simpa [instrumentLossEvents, hholder] using hboth.updInstrument_right k _
  · have hlose : State.loseInstrument i s k = s.updInstrument k fun n =>
        { n with waiting := removeLane n.waiting i, revoked := removeLane n.revoked i } := by
      simp [State.loseInstrument, hholder]
    rw [hlose]
    refine ⟨fun m => ?_, fun j => ?_, ?_, ?_⟩
    · by_cases hm : m = k
      · subst hm; simp [afterLoss, hholder]
      · simp [hm, State.instrument_updInstrument_of_ne]
    · simp [State.controlAfterLossOf, hholder]
    · simpa [instrumentLossReports, hholder] using (UrgentOffered.refl s).updInstrument_right k _
    · simpa [instrumentLossEvents, hholder] using (EventsRecorded.refl s).updInstrument_right k _

/-- A lane waits for no instrument it holds (R141). -/
def HoldsWithoutWaiting (s : State) (i : LaneId) : Prop :=
  ∀ k, (s.instrument k).holder = some i → inSet (s.instrument k).waiting i = false

theorem ArbiterLaw.holdsWithoutWaiting {s : State} (h : ArbiterLaw s) (i : LaneId) : HoldsWithoutWaiting s i :=
  fun k hk => ((h k).1 i hk).2

theorem foldl_loseInstrument_instrumentsLost {i : LaneId} (ks : List InstrumentId) (hnodup : ks.Nodup) (s : State)
    (h : ∀ k ∈ ks, (s.instrument k).holder = some i → inSet (s.instrument k).waiting i = false) :
    InstrumentsLost s (ks.foldl (State.loseInstrument i) s) i ks := by
  induction ks generalizing s with
  | nil =>
    exact ⟨fun m => by simp, fun j => by simp [State.controlAfterLossOf], UrgentOffered.refl s,
      EventsRecorded.refl s⟩
  | cons k ks ih =>
    rw [List.nodup_cons] at hnodup
    obtain ⟨hfresh, hnodup⟩ := hnodup
    have hone := loseInstrument_instrumentsLost (h k List.mem_cons_self)
    have hdisjoint : ∀ m ∈ ks, m ∉ [k] := fun m hm hmk =>
      hfresh (List.mem_singleton.1 hmk ▸ hm)
    have hrest := ih hnodup (State.loseInstrument i s k) fun m hm => by
      rw [hone.instruments, if_neg (hdisjoint m hm)]
      exact h m (List.mem_cons_of_mem _ hm)
    rw [List.foldl_cons, ← List.singleton_append]
    exact hone.trans hrest (loseInstrument_frame i s k) hdisjoint

/-- The loss of a lane at the arbiter (R150). -/
theorem loseInstruments_instrumentsLost {s : State} {i : LaneId} (h : HoldsWithoutWaiting s i) :
    InstrumentsLost s (s.loseInstruments i) i (List.finRange 4) :=
  foldl_loseInstrument_instrumentsLost _ (List.nodup_finRange 4) s fun k _ => h k

/-- A lane that waits for nothing it holds is granted nothing by its own loss. -/
theorem controlAfterLossOf_self {s : State} {i : LaneId} (h : HoldsWithoutWaiting s i)
    (ks : List InstrumentId) : s.controlAfterLossOf ks i i = (s.lane i).control := by
  have hfilter : (ks.filter fun k => (s.instrument k).holder = some i ∧ nextOf (s.instrument k) = some i) = [] := by
    rw [List.filter_eq_nil_iff]
    intro k _ hk
    obtain ⟨hholder, hnext⟩ := of_decide_eq_true hk
    have hin : inSet (s.instrument k).waiting i = true := List.find?_some hnext
    rw [h k hholder] at hin
    exact Bool.false_ne_true hin
  simp only [State.controlAfterLossOf, hfilter, List.getLast?_nil, Option.map_none, Option.none_or]

/-! ### The loss of a lane, put together (R82, R83, R150) -/

theorem UrgentOffered.of_stepFrame_left {s v t : State} {l : List UrgentReport} (h : StepFrame s v)
    (hv : UrgentOffered v t l) : UrgentOffered s t l := by
  rw [h] at hv; exact hv

theorem EventsRecorded.of_stepFrame_left {s v t : State} {l : List (LaneId × EventKind)} (h : StepFrame s v)
    (hv : EventsRecorded v t l) : EventsRecorded s t l := by
  rw [h] at hv; exact hv

theorem ClosedInto.of_arbiterFrame_right {s u t : State} {l : List RecordId} (h : ArbiterFrame u t)
    (hu : ClosedInto s u l) : ClosedInto s t l := by
  rw [h]; exact hu

theorem mem_closedByLoss_iff {s : State} {i : LaneId} {l : List OutEntry} {r : RecordId}
    (hr : r ∈ l.map OutEntry.record) : r ∈ s.closedByLoss i l ↔ (s.record r).owedByNoneBut i = true := by
  obtain ⟨e, he, rfl⟩ := List.mem_map.1 hr
  constructor
  · intro hmem
    obtain ⟨x, hx, hxe⟩ := List.mem_map.1 hmem
    rw [← hxe]
    exact (List.mem_filter.1 hx).2
  · exact fun h => List.mem_map.2 ⟨e, List.mem_filter.2 ⟨he, h⟩, rfl⟩

/-- The lane's own items may change between the loss of its entries and its loss at the arbiter. -/
theorem laneLoss_of_loseEntries_loseInstruments {s : State} {i : LaneId} {o : MemberOutcome} {g : Lane → Lane}
    (ho : o.owing = false) (howed : EntriesOwed s i (s.lane i).outstanding) (hwait : HoldsWithoutWaiting s i)
    (hg : ∀ l, (g l).outstanding = l.outstanding) :
    LaneLoss s (((s.loseEntries i o).updLane i g).loseInstruments i) i o [] [] := by
  let u := s.loseEntries i o
  let v := u.updLane i g
  let t := v.loseInstruments i
  have hsv : StepFrame s v := (loseEntries_frame s i o).trans (by rfl)
  have hvt : ArbiterFrame v t := loseInstruments_frame v i
  obtain ⟨hrecords, hclosed⟩ := loseEntries_entriesLost ho howed
  have hinstr : ∀ k, v.instrument k = s.instrument k := fun k => by rw [State.instrument, hsv]; rfl
  have hlost : InstrumentsLost v t i (List.finRange 4) :=
    loseInstruments_instrumentsLost fun k => by rw [hinstr k]; exact hwait k
  have hself : v.lane i = g { s.lane i with outstanding := [] } := by
    simp [v, u, loseEntries_lane]
  have hother : ∀ j, j ≠ i → v.lane j = s.lane j := fun j hj => by
    simp [v, u, State.lane_updLane_of_ne _ _ hj, loseEntries_lane, hj]
  have hrecord : ∀ r, t.record r = u.record r := fun r => by rw [State.record, hvt]; rfl
  refine ⟨?_, fun r => ?_, ?_, fun k => ?_, fun j hj => ?_, ?_, ?_, hsv.roster.trans hvt.roster⟩
  · rw [hlost.lanes, hself]
    exact hg _
  · rw [hrecord r, hrecords r]
    by_cases hr : r ∈ (s.lane i).outstanding.map OutEntry.record
    · simp only [if_pos hr, lossCloses_eq, mem_closedByLoss_iff hr, StepRecord.afterLoss]
      cases (s.record r).owedByNoneBut i <;> rfl
    · simp only [if_neg hr]
  · exact ClosedInto.of_arbiterFrame_right (u := v) hvt hclosed
  · rw [hlost.instruments, if_pos (List.mem_finRange k), hinstr]
  · rw [hlost.lanes, State.controlAfterLossOf, hother j hj]
    simp only [hinstr]
    rfl
  · have hreports := hlost.reports
    simp only [hinstr] at hreports
    exact hreports.of_stepFrame_left hsv
  · have hevents := hlost.events
    simp only [hinstr] at hevents
    rw [List.append_nil]
    exact hevents.of_stepFrame_left hsv

/-- What the lane holds of its own does not matter to the loss, but for its entries. -/
theorem LaneLoss.of_updLane_left {s t : State} {i : LaneId} {o : MemberOutcome} {first : List UrgentReport}
    {events : List (LaneId × EventKind)} {g : Lane → Lane} (hg : ∀ l, (g l).outstanding = l.outstanding)
    (h : LaneLoss (s.updLane i g) t i o first events) : LaneLoss s t i o first events := by
  have hout : ((s.updLane i g).lane i).outstanding = (s.lane i).outstanding := by simp [hg]
  have hcloses : lossCloses (s.updLane i g) i = lossCloses s i := by
    simp only [lossCloses_eq, hout]; rfl
  obtain ⟨hempty, hrecords, hclosed, hinstr, hlanes, hreports, hevents, hframe⟩ := h
  rw [hcloses] at hclosed
  refine ⟨hempty, fun r => ?_, hclosed, hinstr, fun j hj => ?_, hreports, hevents, hframe⟩
  · have hr := hrecords r
    rw [hcloses, hout] at hr
    exact hr
  · have hl := hlanes j hj
    have hsame := s.lane_updLane_of_ne g hj
    have hc : controlAfterLoss (s.updLane i g) i j = controlAfterLoss s i j := by
      simp only [controlAfterLoss, hsame]; rfl
    rw [hc, hsame] at hl
    exact hl

/-- The lane's own items may change after the loss. -/
theorem LaneLoss.updLane_right {s t : State} {i : LaneId} {o : MemberOutcome} {first : List UrgentReport}
    {events : List (LaneId × EventKind)} {g : Lane → Lane} (hg : ∀ l, (g l).outstanding = l.outstanding)
    (h : LaneLoss s t i o first events) : LaneLoss s (t.updLane i g) i o first events := by
  obtain ⟨hempty, hrecords, hclosed, hinstr, hlanes, hreports, hevents, hframe⟩ := h
  refine ⟨by simp [hg, hempty], hrecords, hclosed, hinstr, fun j hj => ?_, hreports, hevents, ?_⟩
  · rw [t.lane_updLane_of_ne g hj]; exact hlanes j hj
  · exact RosterFrame.trans hframe (updLane_frame t i g)

/-- Another event of the loss (R187). -/
theorem LaneLoss.recordEvent_right {s t : State} {i : LaneId} {o : MemberOutcome} {first : List UrgentReport}
    {events : List (LaneId × EventKind)} (h : LaneLoss s t i o first events) (j : LaneId) (k : EventKind) :
    LaneLoss s (t.recordEvent j k) i o first (events ++ [(j, k)]) := by
  obtain ⟨hempty, hrecords, hclosed, hinstr, hlanes, hreports, hevents, hframe⟩ := h
  have hbeacon := recordEvent_frame t j k
  have hmask : t.noticeMask = s.noticeMask := by rw [hframe]
  have hspace : t.spacingTimer = s.spacingTimer := by rw [hframe]
  refine ⟨by simpa using hempty, fun r => by simpa using hrecords r, ?_, fun m => by simpa using hinstr m,
    fun m hm => by simpa using hlanes m hm, ?_, ?_, RosterFrame.trans hframe hbeacon.roster⟩
  · rw [hbeacon]; exact hclosed
  · rw [hbeacon]; exact hreports
  · rw [← List.append_assoc]
    exact hevents.trans (recordEvent_recorded t j k) hmask hspace

/-! ### A rebind (R37) -/

/-- Whether a frame of the transmit queue stays when a lane loses its entries: a PASS-ON, or the DO of another step
(R23, R37). -/
def staysWithout (lost : List OutEntry) : QueuedFrame → Bool
  | .doStep id _ _ => !(lost.any fun e => e.stepId == id)
  | .passOn _ => true

theorem removeSteps_stepIds (l : Lane) (lost : List OutEntry) :
    l.removeSteps (lost.map OutEntry.stepId) = { l with txQueue := l.txQueue.filter (staysWithout lost) } := by
  unfold Lane.removeSteps
  congr 1
  refine List.filter_congr fun q _ => ?_
  cases q with
  | doStep id tag command =>
    simp only [staysWithout, List.contains_eq_any_beq, List.any_map, Function.comp_def]
    simp only [BEq.comm]
  | passOn payload => rfl

/-- The frame in flight a rebind keeps: a PASS-ON (R37). -/
def keptByRebind : Option InFlight → Option InFlight
  | some { frame := .queued (.passOn p), seq, resends, phase } =>
    some { frame := .queued (.passOn p), seq, resends, phase }
  | _ => none

theorem abandonForRebind_eq (l : Lane) :
    l.abandonForRebind =
      { l with inFlight := keptByRebind l.inFlight, txBusy := l.abandonForRebind.txBusy } := by
  cases hf : l.inFlight with
  | none =>
    simp only [Lane.abandonForRebind, Lane.abandon, keptByRebind, hf]
    rw [← hf]
  | some f =>
    obtain ⟨frame, seq, resends, phase⟩ := f
    rcases frame with (⟨id, tag, command⟩ | payload) | c
    · simp [Lane.abandonForRebind, Lane.abandon, keptByRebind, hf]
    · simp only [Lane.abandonForRebind, keptByRebind, hf]
      rw [← hf]
    · simp [Lane.abandonForRebind, Lane.abandon, keptByRebind, hf]

/-- The lane engine's part of a rebind (R37 steps 2 to 4). -/
def rebindEngine (lost : List OutEntry) (l : Lane) : Lane :=
  { (l.removeSteps (lost.map OutEntry.stepId)).abandonForRebind with control := none }

theorem rebindEngine_eq (lost : List OutEntry) (l : Lane) : rebindEngine lost l =
    { l with
      txQueue := l.txQueue.filter (staysWithout lost)
      inFlight := keptByRebind l.inFlight
      control := none
      txBusy := (rebindEngine lost l).txBusy } := by
  unfold rebindEngine
  rw [abandonForRebind_eq, removeSteps_stepIds]

theorem updLane_updLane (s : State) (i : LaneId) (f g : Lane → Lane) :
    (s.updLane i f).updLane i g = s.updLane i fun l => g (f l) := by
  simp [State.updLane, State.lane]

theorem rebind_eq (s : State) (i : LaneId) :
    s.rebind i =
      (((((s.loseEntries i .lost).updLane i (rebindEngine (s.lane i).outstanding)).loseInstruments i).updLane i
        fun l => { l with bindCount := satIncr Config.byteCounterMax l.bindCount }).recordEvent i .rebound) := by
  unfold State.rebind State.loseWork
  rw [updLane_updLane]
  rfl

/-- A rebind loses the lane's work and records REBOUND (R37). -/
theorem rebind_laneLoss {s : State} {i : LaneId} (howed : EntriesOwed s i (s.lane i).outstanding)
    (hwait : HoldsWithoutWaiting s i) : LaneLoss s (s.rebind i) i .lost [] [(i, .rebound)] := by
  have hengine : ∀ l, (rebindEngine (s.lane i).outstanding l).outstanding = l.outstanding := fun l => by
    rw [rebindEngine_eq]
  have hcounted : ∀ l : Lane,
      { l with bindCount := satIncr Config.byteCounterMax l.bindCount }.outstanding = l.outstanding := fun _ => rfl
  have hlost := laneLoss_of_loseEntries_loseInstruments (o := .lost) rfl howed hwait hengine
  rw [rebind_eq]
  exact (hlost.updLane_right hcounted).recordEvent_right i .rebound

/-- What a rebind leaves of the lane's own items, the transmitter left open (R37). -/
theorem rebind_lane_self {s : State} {i : LaneId} (hwait : HoldsWithoutWaiting s i) :
    (s.rebind i).lane i =
      { s.lane i with
        outstanding := []
        txQueue := (s.lane i).txQueue.filter (staysWithout (s.lane i).outstanding)
        inFlight := keptByRebind (s.lane i).inFlight
        control := none
        bindCount := satIncr Config.byteCounterMax (s.lane i).bindCount
        txBusy := ((s.rebind i).lane i).txBusy } := by
  let v := (s.loseEntries i .lost).updLane i (rebindEngine (s.lane i).outstanding)
  have hself : v.lane i = rebindEngine (s.lane i).outstanding { s.lane i with outstanding := [] } := by
    simp [v, loseEntries_lane]
  have hv : HoldsWithoutWaiting v i := fun k => by
    rw [State.instrument_updLane, State.instrument, loseEntries_frame]
    exact hwait k
  have hlane : (v.loseInstruments i).lane i = v.lane i := by
    rw [(loseInstruments_instrumentsLost hv).lanes, controlAfterLossOf_self hv]
  have hrebind : (s.rebind i).lane i =
      { v.lane i with bindCount := satIncr Config.byteCounterMax (v.lane i).bindCount } := by
    rw [rebind_eq, recordEvent_lane, State.lane_updLane_self, hlane]
  rw [hrebind, hself, rebindEngine_eq]

/-! ### HELLO -/

theorem dispatched_eq (s : State) (i : LaneId) :
    s.dispatched i = { s with pointer := i }.updLane i fun l => { l with rxBuffer := l.rxBuffer.tail } := rfl

theorem lane_dispatched_self (s : State) (i : LaneId) :
    (s.dispatched i).lane i = { s.lane i with rxBuffer := (s.lane i).rxBuffer.tail } :=
  s.lane_updLane_self i fun l => { l with rxBuffer := l.rxBuffer.tail }

theorem exec_hello_eq : ∀ s : State, exec .hello s = execHello s := by intros; rfl

/-- A HELLO of a BOUND lane under its own identity is a rebind (R34, R37). -/
theorem exec_hello_own_identity {s : State} {i : LaneId} {f : RxFrame} {more : List RxFrame}
    (hnext : NextFrame s i f more) (happ : f.framing = .app) (hkind : f.kind = 0x10#8)
    (hmode : (s.lane i).mode = .app) (hpos : f.payload ≠ []) (hlen : f.payload.length ≤ 24)
    (hbound : (s.lane i).state = .bound) (hid : (s.lane i).identity = some f.payload) :
    exec .hello s = .next ((s.dispatched i).rebind i) := by
  have hmine : f.isApp kindHello = true := by simp [RxFrame.isApp, happ, hkind, kindHello]
  have hlane := lane_dispatched_self s i
  have htake : takeHello i f (s.dispatched i) = (s.dispatched i).rebind i := by
    simp [takeHello, State.helloByState, hlane, hmode, hpos, Nat.not_lt.2 hlen, Config.maxIdentity, hbound, hid]
  rw [exec_hello_eq, execHello, dispatch_of_nextFrame hnext hmine, htake]

/-- Settles O47: the HELLO is a rebind (`exec_hello_own_identity`), which leaves the lane as `rebind_lane_self` says
and loses its work as `rebind_laneLoss` says; the frame that left the receive buffer does not matter to the loss. -/
theorem rebindLosesTheLanesWork : Obligations.RebindLosesTheLanesWork := by
  intro s i f more hnext hlaw happ hkind hmode hpos hlen hbound hid
  have hlane := lane_dispatched_self s i
  have hbuffer : (s.lane i).rxBuffer.tail = more := by rw [hnext.1]; rfl
  have howed : EntriesOwed (s.dispatched i) i ((s.dispatched i).lane i).outstanding := by
    rw [hlane]; exact hlaw.owing.entriesOwed i
  have hwait : HoldsWithoutWaiting (s.dispatched i) i := hlaw.arbiter.holdsWithoutWaiting i
  refine ⟨(s.dispatched i).rebind i, exec_hello_own_identity hnext happ hkind hmode hpos hlen hbound hid, ?_, ?_⟩
  · rw [rebind_lane_self hwait, hlane, hbuffer]
    rfl
  · have hloss := rebind_laneLoss howed hwait
    rw [dispatched_eq] at hloss ⊢
    exact hloss.of_updLane_left (g := fun l => { l with rxBuffer := l.rxBuffer.tail }) fun _ => rfl

end Sys2Proof
end

section
/-! PROOFS of the family of steps: how an order that keeps to the step frame is answered, and a walk over the lanes that
changes each lane and its member entry at its own turn; with them the end of a step by ABORT and the take of a STEP. -/

namespace Sys2Proof

open Sys2Proof.Machine

/-! ### Bytes of an order body -/

theorem half_le16 (w : Half) : half (w.setWidth 8) ((w >>> 8).setWidth 8) = w := by
  unfold half
  ext k hk
  simp only [BitVec.getElem_append, BitVec.getElem_setWidth, BitVec.getLsbD_ushiftRight]
  by_cases h : k < 8
  · simp [h, BitVec.getLsbD_eq_getElem hk]
  · have hback : 8 + (k - 8) = k := by omega
    simp [h, hback, BitVec.getLsbD_eq_getElem hk]

theorem halfAt_le16 (w : Half) : halfAt (le16 w) 0 = w := half_le16 w

theorem byteOf_toNat {n : Nat} (h : n < 256) : (byteOf n).toNat = n := by
  simp only [byteOf, BitVec.toNat_ofNat]
  omega

theorem clamp_half (w : Half) : clamp 1 65535 w.toNat = max 1 w.toNat := by
  unfold clamp
  have hlt : w.toNat < 65536 := w.isLt
  split
  · omega
  · rw [if_neg (by omega)]
    omega

/-! ### Lanes and lane sets (R196) -/

theorem mem_laneIds (i : LaneId) : i ∈ laneIds := List.mem_finRange i

theorem nodup_laneIds : laneIds.Nodup := List.nodup_finRange 16

theorem inSet_addLane (w : LaneSet) (i j : LaneId) : inSet (addLane w i) j = (inSet w j || decide (j = i)) := by
  simp [inSet, addLane, Fin.ext_iff, eq_comm]

theorem inSet_foldl_addLane (p : LaneId → Bool) (l : List LaneId) (w : LaneSet) (j : LaneId) :
    inSet (l.foldl (fun w i => if p i then addLane w i else w) w) j = (inSet w j || (decide (j ∈ l) && p j)) := by
  induction l generalizing w with
  | nil => simp
  | cons i l ih =>
    rw [List.foldl_cons, ih]
    by_cases h : j = i
    · subst h
      cases hp : p j <;> simp [inSet_addLane]
    · cases p i <;> simp [inSet_addLane, h]

theorem inSet_laneSetOf (p : LaneId → Bool) (j : LaneId) : inSet (laneSetOf p) j = p j := by
  rw [laneSetOf, inSet_foldl_addLane]
  simp [inSet, laneIds]

theorem eq_of_inSet_eq {w v : LaneSet} (h : ∀ i, inSet w i = inSet v i) : w = v := by
  ext k hk
  have := h ⟨k, hk⟩
  simpa [inSet, BitVec.getLsbD_eq_getElem hk] using this

theorem laneSetOf_inSet (w : LaneSet) : laneSetOf (inSet w) = w := eq_of_inSet_eq (inSet_laneSetOf _)

theorem laneSetOf_eq_zero_iff {p : LaneId → Bool} : laneSetOf p = 0#16 ↔ ∀ i, p i = false := by
  constructor
  · intro h i
    rw [← inSet_laneSetOf p i, h]
    simp [inSet]
  · intro h
    exact eq_of_inSet_eq fun i => by rw [inSet_laneSetOf, h]; simp [inSet]

/-! ### Orders that change lanes, the step table and bulk egress only -/

/-- A ready order whose action keeps to the step frame makes no beacon due, so its ANSWER follows at once (R171,
R194). -/
theorem serve_ok_of_stepFrame {α : Type} {s u : State} {o : Order} {rest : List Order} {mine : Order → Bool}
    {check : State → Order → Except RefusalCode α} {act : α → State → State × AnswerBody} {a : α} {b : AnswerBody}
    (h : OrderReady s o rest) (hm : mine o = true) (hc : check (s.taken o rest) o = .ok a)
    (hact : act a (s.taken o rest) = (u, b)) (hframe : StepFrame (s.taken o rest) u) :
    s.serve mine check act =
      { s.answered o rest b with
        lanes := u.lanes, records := u.records, freeOrder := u.freeOrder, closing := u.closing
        bulk := u.bulk } := by
  have hserve := serve_ok_of_ready (act := act) h hm hc
  have hdue : s.beaconDue = true ∨ u.beaconDue = false := by
    rw [hframe]
    cases hd : s.beaconDue <;> simp [State.taken, hd]
  have hact' : act a { s with ingress := rest, currentOrder := some o, answerReserved := true } = (u, b) := hact
  rw [hserve, hact', beaconBeforeAnswer_of_not_made hdue, hframe]
  obtain ⟨-, -, hcurrent, hreserved, -⟩ := h
  simp [State.finishOrder, State.answered, State.taken, hcurrent, hreserved]

/-! ### The members of one record, lane by lane -/

/-- Lanes and the member entries of record `r` may have changed, and nothing else. -/
structure MembersFrame (r : RecordId) (s t : State) : Prop where
  state : t = { s with lanes := t.lanes, records := t.records }
  self : t.record r = { s.record r with members := (t.record r).members }
  others : ∀ q, q ≠ r → t.record q = s.record q

theorem MembersFrame.refl (r : RecordId) (s : State) : MembersFrame r s s := ⟨rfl, rfl, fun _ _ => rfl⟩

theorem MembersFrame.trans {r : RecordId} {s t u : State} (h : MembersFrame r s t) (g : MembersFrame r t u) :
    MembersFrame r s u :=
  ⟨by rw [g.state, h.state], by rw [g.self, h.self], fun q hq => by rw [g.others q hq, h.others q hq]⟩

theorem MembersFrame.stepFrame {r : RecordId} {s t : State} (h : MembersFrame r s t) : StepFrame s t := by
  rw [StepFrame, h.state]

theorem ClosedInto.of_membersFrame_left {r : RecordId} {s u t : State} {l : List RecordId}
    (h : MembersFrame r s u) (hu : ClosedInto u t l) : ClosedInto s t l := by
  rw [h.state] at hu; exact hu

theorem updLane_membersFrame (r : RecordId) (s : State) (i : LaneId) (f : Lane → Lane) :
    MembersFrame r s (s.updLane i f) := ⟨rfl, rfl, fun _ _ => rfl⟩

theorem updRecord_membersFrame {r : RecordId} {s : State} {f : StepRecord → StepRecord}
    (hf : f (s.record r) = { s.record r with members := (f (s.record r)).members }) :
    MembersFrame r s (s.updRecord r f) :=
  ⟨rfl, by rw [State.record_updRecord_self]; exact hf, fun _ hq => s.record_updRecord_of_ne f hq⟩

/-- A lane and its member entry in record `r`. -/
def Machine.State.laneMember (s : State) (r : RecordId) (i : LaneId) : Lane × Option Member :=
  (s.lane i, (s.record r).members[i])

theorem Machine.State.laneMember_fst (s : State) (r : RecordId) (i : LaneId) :
    (s.laneMember r i).1 = s.lane i := rfl

theorem Machine.State.laneMember_snd (s : State) (r : RecordId) (i : LaneId) :
    (s.laneMember r i).2 = (s.record r).members[i] := rfl

theorem MembersFrame.record_eq {r : RecordId} {s t : State} (h : MembersFrame r s t) {g : LaneId → Option Member}
    (hg : ∀ i, (t.laneMember r i).2 = g i) : t.record r = { s.record r with members := Vector.ofFn g } := by
  have hmembers : (t.record r).members = Vector.ofFn g := Vector.ext fun k hk => by
    have hk' := hg ⟨k, hk⟩
    rw [State.laneMember_snd] at hk'
    simpa using hk'
  rw [h.self, hmembers]

/-- A walk over lanes, each turn of which changes that lane and its member entry only. -/
theorem foldl_laneMember {r : RecordId} {f : State → LaneId → State}
    {turn : Lane × Option Member → Lane × Option Member} {s : State}
    (hframe : ∀ u i, MembersFrame r s u → MembersFrame r u (f u i))
    (hturn : ∀ u i j, MembersFrame r s u →
      (f u i).laneMember r j = if j = i then turn (u.laneMember r i) else u.laneMember r j)
    (l : List LaneId) (hl : l.Nodup) :
    MembersFrame r s (l.foldl f s) ∧ ∀ j, (l.foldl f s).laneMember r j =
      if j ∈ l then turn (s.laneMember r j) else s.laneMember r j := by
  suffices hall : ∀ u, MembersFrame r s u → MembersFrame r s (l.foldl f u) ∧ ∀ j, (l.foldl f u).laneMember r j =
      if j ∈ l then turn (u.laneMember r j) else u.laneMember r j from hall s (MembersFrame.refl r s)
  induction l with
  | nil => exact fun u hu => ⟨hu, fun j => by simp⟩
  | cons i l ih =>
    intro u hu
    obtain ⟨hfresh, hl⟩ := List.nodup_cons.1 hl
    obtain ⟨hmembers, hviews⟩ := ih hl (f u i) (hu.trans (hframe u i hu))
    refine ⟨hmembers, fun j => ?_⟩
    rw [List.foldl_cons, hviews, hturn u i j hu]
    by_cases h : j = i
    · subst h; simp [hfresh]
    · simp [h]

theorem owes_eq_any (n : StepRecord) (i : LaneId) : n.owes i = n.members[i].any fun m => m.outcome.owing := by
  unfold StepRecord.owes
  cases n.members[i] <;> rfl

theorem updMember_getElem (n : StepRecord) (i j : LaneId) (f : Member → Member) :
    (n.updMember i f).members[j.val] = if j = i then n.members[j].map f else n.members[j] := by
  rw [updMember_members]
  simp

/-! ### A step that ends by expiry or abort (R63 to R65) -/

/-- A member entry of a step that ends: an owing member takes the outcome (R63, R64). -/
def Machine.Member.ended (o : MemberOutcome) (m : Member) : Member :=
  if m.outcome = .pending ∨ m.outcome = .partialAnswer then { m with outcome := o } else m

theorem Machine.Member.ended_eq (o : MemberOutcome) (m : Member) : m.ended o =
    if m.outcome = .pending ∨ m.outcome = .partialAnswer then { m with outcome := o } else m := rfl

theorem owing_iff {o : MemberOutcome} : o.owing = true ↔ o = .pending ∨ o = .partialAnswer := by
  cases o <;> decide

/-- A lane's turn in the ending of a step: an owing member's entry goes and its outcome is written (R63, R64). -/
def endTurn (r : RecordId) (o : MemberOutcome) (x : Lane × Option Member) : Lane × Option Member :=
  (if (x.2.any fun m => m.outcome.owing) then x.1.dropEntry r else x.1, x.2.map (Member.ended o))

theorem endOwing_membersFrame (r : RecordId) (o : MemberOutcome) (s : State) (i : LaneId) :
    MembersFrame r s (State.endOwing r o s i) := by
  unfold State.endOwing State.setOutcome
  split
  · split
    · exact (updRecord_membersFrame rfl).trans (updLane_membersFrame r _ i _)
    · exact updLane_membersFrame r s i _
  · exact MembersFrame.refl r s

theorem endOwing_laneMember {r : RecordId} {o : MemberOutcome} {s : State} (hopen : (s.record r).state = .opened)
    (i j : LaneId) :
    (State.endOwing r o s i).laneMember r j =
      if j = i then endTurn r o (s.laneMember r i) else s.laneMember r j := by
  unfold State.endOwing State.setOutcome
  cases howes : (s.record r).owes i with
  | true =>
    have hany := howes
    rw [owes_eq_any, Option.any_eq_true] at hany
    obtain ⟨m, hm, howing⟩ := hany
    by_cases h : j = i
    · subst h
      simp [State.laneMember, hopen, endTurn, updMember_getElem, hm, howing, Member.ended, owing_iff.1 howing]
    · simp [State.laneMember, hopen, updMember_getElem, h, State.lane_updLane_of_ne]
  | false =>
    by_cases h : j = i
    · subst h
      rw [owes_eq_any] at howes
      cases hm : (s.record r).members[j] with
      | none => simp [State.laneMember, endTurn, hm]
      | some m =>
        have hnot : m.outcome.owing = false := by simpa [hm] using howes
        have hkept : m.ended o = m := if_neg fun hp => by simp [owing_iff.2 hp] at hnot
        simp [State.laneMember, endTurn, hm, hnot, hkept]
    · simp [h]

/-- A lane's turn in the removal of a step's unsent DO frames (R65). -/
def unsentTurn (id : Half) (x : Lane × Option Member) : Lane × Option Member :=
  (if x.2.isSome then { x.1 with txQueue := withoutStep id x.1.txQueue } else x.1, x.2)

theorem removeSteps_singleton (l : Lane) (id : Half) :
    l.removeSteps [id] = { l with txQueue := withoutStep id l.txQueue } := by
  unfold Lane.removeSteps withoutStep
  congr 2
  funext q
  cases q with
  | doStep id' tag command => by_cases h : id' = id <;> simp [h]
  | passOn payload => rfl

theorem removeUnsent_membersFrame (r : RecordId) (s : State) (i : LaneId) :
    MembersFrame r s (State.removeUnsent r s i) := by
  unfold State.removeUnsent
  split
  · exact updLane_membersFrame r s i _
  · exact MembersFrame.refl r s

theorem removeUnsent_laneMember {r : RecordId} {id : Half} {s : State} (hid : (s.record r).stepId = some id)
    (i j : LaneId) :
    (State.removeUnsent r s i).laneMember r j =
      if j = i then unsentTurn id (s.laneMember r i) else s.laneMember r j := by
  unfold State.removeUnsent
  by_cases h : j = i
  · subst h
    cases hm : (s.record r).members[j] <;>
      simp [State.laneMember, StepRecord.isMember, unsentTurn, hm, hid, removeSteps_singleton]
  · cases hm : (s.record r).isMember i <;> simp [State.laneMember, h, State.lane_updLane_of_ne]

/-- The end of an OPEN step (R63 to R65, R67). -/
theorem endStep_stepEnded {s : State} {r : RecordId} {id : Half} (hopen : (s.record r).state = .opened)
    (hid : (s.record r).stepId = some id) (o : MemberOutcome) (c : CloseCause) :
    StepEnded s (s.endStep r o c) r id o c := by
  let u := laneIds.foldl (State.endOwing r o) s
  let v := laneIds.foldl (State.removeUnsent r) u
  obtain ⟨hsu, hended⟩ : MembersFrame r s u ∧ _ := foldl_laneMember
    (fun w i _ => endOwing_membersFrame r o w i)
    (fun w i j hw => endOwing_laneMember (by rw [hw.self]; exact hopen) i j) laneIds nodup_laneIds
  obtain ⟨huv, hunsent⟩ : MembersFrame r u v ∧ _ := foldl_laneMember
    (fun w i _ => removeUnsent_membersFrame r w i)
    (fun w i j hw => removeUnsent_laneMember (by rw [hw.self, hsu.self]; exact hid) i j) laneIds nodup_laneIds
  have hsv : MembersFrame r s v := hsu.trans huv
  have hview : ∀ i, v.laneMember r i = unsentTurn id (endTurn r o (s.laneMember r i)) := fun i => by
    rw [hunsent, if_pos (mem_laneIds i), hended, if_pos (mem_laneIds i)]
  have hlane : ∀ i, v.lane i = (unsentTurn id (endTurn r o (s.laneMember r i))).1 :=
    fun i => by rw [← hview, State.laneMember_fst]
  have hrecord := hsv.record_eq (g := fun i => (s.record r).members[i].map (Member.ended o)) fun i => by
    rw [hview]; rfl
  have hend : s.endStep r o c = v.closeStep r c := rfl
  rw [hend]
  refine ⟨fun q hq => ?_, ?_, ?_, fun i => ?_⟩
  · rw [closeStep_record_of_ne v c hq, hsv.others q hq]
  · rw [closeStep_record_self, hrecord]
    simp only [funext (Member.ended_eq o)]
  · exact ClosedInto.of_membersFrame_left hsv (closeStep_closedInto v r c)
  · rw [closeStep_lane, hlane, owes_eq_any]
    cases hm : (s.record r).members[i] with
    | none => simp [State.laneMember, endTurn, unsentTurn, hm]
    | some m => cases ho : m.outcome.owing <;> simp [State.laneMember, endTurn, unsentTurn, hm, ho, Lane.dropEntry]

/-! ### ABORT -/

theorem exec_abort_eq : ∀ s : State, exec .abort s = execAbort s := by intros; rfl

theorem openRecord_eq_none {s : State} {id : Half}
    (h : ∀ r, (s.record r).state = .opened → (s.record r).stepId ≠ some id) : s.openRecord id = none := by
  simpa [State.openRecord] using h

theorem openRecord_eq_some {s : State} {id : Half} {r : RecordId} (hopen : (s.record r).state = .opened)
    (hid : (s.record r).stepId = some id)
    (honly : ∀ r', (s.record r').state = .opened → (s.record r').stepId = some id → r' = r) :
    s.openRecord id = some r := by
  unfold State.openRecord
  cases hfind : (List.finRange 32).find? fun r => (s.record r).state = .opened ∧ (s.record r).stepId = some id with
  | none => simpa [hopen, hid] using List.find?_eq_none.1 hfind r (List.mem_finRange r)
  | some q =>
    have hfound := List.find?_some hfind
    obtain ⟨hq, hqid⟩ := of_decide_eq_true hfound
    rw [honly q hq hqid]

theorem parseAbort_le16 (id : Half) :
    parseAbort (le16 id) = if id = 0#16 then .error .badValue else .ok id := by
  have hlen : (le16 id).length = 2 := rfl
  simp [parseAbort, hlen, halfAt_le16]

/-- Settles O12: the refusals are those of `checkAbort`, and an ABORT that passes ends the step as
`endStep_stepEnded` says. -/
theorem abortEndsOpenStep : Obligations.AbortEndsOpenStep := by
  intro s o rest hready hkind
  have hmine : o.isKind .abort = true := by simp [Order.isKind, hkind, OrderKind.code]
  have hrefused : ∀ c, checkAbort (s.taken o rest) o = .error c →
      exec .abort s = .next (s.answered o rest (.refused c)) := fun c hc => by
    rw [exec_abort_eq, execAbort, serve_refused_of_ready hready hmine hc]
  refine ⟨fun hlen => hrefused _ (by simp [checkAbort, parseAbort, hlen]), fun id hbody => ⟨fun hzero => ?_,
    fun hid hnone => ?_, fun r hid hopen hcarries honly => ?_⟩⟩
  · exact hrefused _ (by rw [checkAbort, hbody, parseAbort_le16, if_pos hzero])
  · have hopen : (s.taken o rest).openRecord id = none := openRecord_eq_none hnone
    exact hrefused _ (by simp [checkAbort, hbody, parseAbort_le16, hid, hopen])
  · have hfind : (s.taken o rest).openRecord id = some r := openRecord_eq_some hopen hcarries honly
    have hcheck : checkAbort (s.taken o rest) o = .ok r := by
      simp [checkAbort, hbody, parseAbort_le16, hid, hfind]
    have hact : actAbort r (s.taken o rest) =
        ((s.taken o rest).endStep r .aborted .aborted, .okAbort (s.record r).owing.length) := rfl
    have hframe := endStep_frame (s.taken o rest) r .aborted .aborted
    have hended := endStep_stepEnded (s := s.taken o rest) hopen hcarries .aborted .aborted
    generalize (s.taken o rest).endStep r .aborted .aborted = u at hact hframe hended
    rw [exec_abort_eq, execAbort, serve_ok_of_stepFrame hready hmine hcheck hact hframe]
    exact ⟨_, rfl, rfl, hended⟩

/-! ### The body of a STEP (R54, R200) -/

/-- The fields a STEP body spells (R54, R200). -/
def stepArgs (id : Half) (target : StepTarget) (stream : Bool) (deadline : Half) (limitGroup : Byte) (stat : Half)
    (tag : Byte) (command : List Byte) : StepArgs :=
  { stepId := id, target := target, stream := stream, deadline := max 1 deadline.toNat, limitGroup := limitGroup
    statEntry := statEntryOf stat, tag := tag, command := command }

/-- A target a STEP can name: any lane set, or a group 0 to 31 (R53, R54). -/
def Machine.StepTarget.InRange : StepTarget → Prop
  | .lanes _ => True
  | .group n => n ≤ 31

theorem parseStep_stepBody {id : Half} {target : StepTarget} {stream : Bool} {limitGroup : Byte}
    {command : List Byte} (reserved : Byte) (deadline stat : Half) (tag : Byte) (hid : id ≠ 0#16)
    (hgroup : limitGroup.toNat ≤ 63) (hcommand : command.length ≤ 200)
    (htarget : target.InRange) :
    parseStep (stepBody id target reserved stream deadline limitGroup stat tag command) =
      .ok (stepArgs id target stream deadline limitGroup stat tag command) := by
  have hlen : (byteOf command.length).toNat = command.length := byteOf_toNat (by omega)
  have hstream : (levelByte stream).toNat ≤ 1 ∧ (levelByte stream == 0x01#8) = stream := by
    cases stream <;> decide
  cases target with
  | lanes set =>
    simp [parseStep, stepBody, stepArgs, byteAt, halfAt, le16, half_le16, hlen, hid, Nat.not_lt.2 hgroup,
      Nat.not_lt.2 hcommand, Nat.not_lt.2 hstream.1, hstream.2, clamp_half, Config.maxCommand, Nat.add_comm 13]
  | group n =>
    have hle : n ≤ 31 := htarget
    have hn : (byteOf n).toNat = n := byteOf_toNat (by omega)
    simp [parseStep, stepBody, stepArgs, byteAt, halfAt, le16, half_le16, hlen, hid, Nat.not_lt.2 hgroup, hn,
      Nat.not_lt.2 hle, Nat.not_lt.2 hcommand, Nat.not_lt.2 hstream.1, hstream.2, clamp_half,
      Config.maxCommand, Nat.add_comm 13]

/-! ### A STEP taken (R53, R55, R56) -/

theorem targetMembers_eq_membersOf (s : State) {target : StepTarget} (h : target.InRange) :
    s.targetMembers target = s.membersOf target := by
  cases target with
  | lanes set => rfl
  | group n =>
    cases n with
    | zero => rfl
    | succ n =>
      have hn : n < 31 := h
      simp [State.targetMembers, State.groupLanes, State.membersOf, hn, Nat.succ_le_of_lt hn]

theorem takeOutcome_eq_outcomeAtTake {s : State} (h : CapacityLaw s) (i : LaneId) :
    (s.lane i).takeOutcome = outcomeAtTake (s.lane i) := by
  obtain ⟨hqueue, -, -, hlist, -⟩ := h.lanes i
  have hfull : 4 ≤ (s.lane i).outstanding.length ↔ (s.lane i).outstanding.length = 4 := by omega
  have hqueued : 8 ≤ (s.lane i).txQueue.length ↔ (s.lane i).txQueue.length = 8 := by omega
  simp only [Lane.takeOutcome, outcomeAtTake, Config.outstandingSize, Config.txQueueSize, hfull, hqueued]

theorem outcomeAtTake_owing (l : Lane) : (outcomeAtTake l).owing = (outcomeAtTake l == .pending) := by
  unfold outcomeAtTake
  split
  · rfl
  · split <;> rfl

/-- A member lane's turn in the take of a STEP (R56). -/
def takeTurn (r : RecordId) (a : StepArgs) (x : Lane × Option Member) : Lane × Option Member :=
  (if x.1.takeOutcome = .pending then x.1.takeStep r a else x.1, some (Member.fresh x.1.takeOutcome))

theorem examine_membersFrame (r : RecordId) (a : StepArgs) (s : State) (i : LaneId) :
    MembersFrame r s (State.examine r a s i) := by
  unfold State.examine
  dsimp only
  split
  · exact (updRecord_membersFrame rfl).trans (updLane_membersFrame r _ i _)
  · exact updRecord_membersFrame rfl

theorem examine_laneMember (r : RecordId) (a : StepArgs) (s : State) (i j : LaneId) :
    (State.examine r a s i).laneMember r j =
      if j = i then takeTurn r a (s.laneMember r i) else s.laneMember r j := by
  unfold State.examine
  dsimp only
  by_cases h : j = i
  · subst h
    split <;> simp [State.laneMember, takeTurn, *]
  · have hv : i.val ≠ j.val := fun e => h (Fin.ext e.symm)
    split <;> simp [State.laneMember, h, hv, State.lane_updLane_of_ne]

theorem openStep_record (s : State) (r q : RecordId) (a : StepArgs) :
    (s.openStep r a).record q = if q = r then a.record else (s.record q).forget a.stepId := by
  simp [State.openStep, State.record]

theorem openStep_lane (s : State) (r : RecordId) (a : StepArgs) (i : LaneId) :
    (s.openStep r a).lane i = s.lane i := by simp only [State.openStep, State.lane]

theorem openStep_frame (s : State) (r : RecordId) (a : StepArgs) :
    s.openStep r a = { s with records := (s.openStep r a).records, freeOrder := s.freeOrder.tail } := by
  simp only [State.openStep]

theorem takeStepInto_laneMember (s : State) (r : RecordId) (a : StepArgs) :
    MembersFrame r (s.openStep r a) (s.takeStepInto r a) ∧ ∀ j, (s.takeStepInto r a).laneMember r j =
      if inSet (s.targetMembers a.target) j then takeTurn r a (s.lane j, none) else (s.lane j, none) := by
  obtain ⟨hframe, hview⟩ := foldl_laneMember (s := s.openStep r a)
    (fun u i _ => examine_membersFrame r a u i) (fun u i j _ => examine_laneMember r a u i j)
    (laneIds.filter fun i => inSet (s.targetMembers a.target) i) (nodup_laneIds.filter _)
  refine ⟨hframe, fun j => ?_⟩
  have hstart : (s.openStep r a).laneMember r j = (s.lane j, none) := by
    simp [State.laneMember, openStep_record, openStep_lane, StepArgs.record]
  have hmem : (j ∈ laneIds.filter fun i => inSet (s.targetMembers a.target) i) ↔
      inSet (s.targetMembers a.target) j = true := by simp [mem_laneIds]
  have hj := hview j
  simp only [hmem, hstart] at hj
  exact hj

/-- The lanes after the take: a PENDING member gets its entry and its DO frame (R56, R58). -/
theorem takeStepInto_lane (s : State) (r : RecordId) (a : StepArgs) (j : LaneId) :
    (s.takeStepInto r a).lane j =
      if inSet (s.targetMembers a.target) j = true ∧ (s.lane j).takeOutcome = .pending then
        (s.lane j).takeStep r a
      else s.lane j := by
  rw [← State.laneMember_fst _ r, (takeStepInto_laneMember s r a).2]
  by_cases hin : inSet (s.targetMembers a.target) j = true
  · simp [hin, takeTurn]
  · simp [hin]

/-- The opened record after the take: a fresh entry for every member (R56). -/
theorem takeStepInto_record_self (s : State) (r : RecordId) (a : StepArgs) :
    (s.takeStepInto r a).record r =
      { a.record with
        members := Vector.ofFn fun i =>
          if inSet (s.targetMembers a.target) i then some (Member.fresh (s.lane i).takeOutcome) else none } := by
  obtain ⟨hframe, hview⟩ := takeStepInto_laneMember s r a
  have hmember : ∀ i, ((s.takeStepInto r a).laneMember r i).2 =
      if inSet (s.targetMembers a.target) i then some (Member.fresh (s.lane i).takeOutcome) else none := fun i => by
    rw [hview]
    split <;> rfl
  rw [hframe.record_eq hmember, openStep_record, if_pos rfl]

/-- The other records after the take: a FREE one forgets the ID that is opened again (R56). -/
theorem takeStepInto_record_of_ne (s : State) {r q : RecordId} (a : StepArgs) (h : q ≠ r) :
    (s.takeStepInto r a).record q = (s.record q).forget a.stepId := by
  rw [(takeStepInto_laneMember s r a).1.others q h, openStep_record, if_neg h]

/-! ### The record a STEP opens, in the terms of the statements -/

section

variable (s : State) (members : LaneSet) (id : Half) (stream : Bool) (deadline : Half) (limitGroup : Byte)
  (stat : Half) (tag : Byte) (command : List Byte)

theorem openedRecord_isMember :
    laneSetOf (s.openedRecord members id stream deadline limitGroup stat tag command).isMember = members := by
  conv_rhs => rw [← laneSetOf_inSet members]
  congr 1
  funext i
  cases hin : inSet members i <;> simp [State.openedRecord, StepRecord.isMember, hin]

theorem openedRecord_withOutcome (o : MemberOutcome) :
    (s.openedRecord members id stream deadline limitGroup stat tag command).withOutcome o = s.takenAs members o := by
  unfold StepRecord.withOutcome State.takenAs
  congr 1
  funext i
  cases hin : inSet members i <;> simp [State.openedRecord, hin]

theorem openedRecord_owing_eq_nil (h : s.takenAs members .pending = 0#16) :
    (s.openedRecord members id stream deadline limitGroup stat tag command).owing = [] := by
  rw [StepRecord.owing, List.filter_eq_nil_iff]
  intro i _
  have hnone := laneSetOf_eq_zero_iff.1 h i
  rw [← outcomeAtTake_owing] at hnone
  rw [owes_eq_any]
  cases hin : inSet members i <;> simp_all [State.openedRecord]

theorem takeStepInto_openedRecord {target : StepTarget} (r : RecordId)
    (hcap : ∀ i, (s.lane i).takeOutcome = outcomeAtTake (s.lane i)) (htarget : target.InRange) :
    (s.takeStepInto r (stepArgs id target stream deadline limitGroup stat tag command)).record r =
      s.openedRecord (s.membersOf target) id stream deadline limitGroup stat tag command := by
  rw [takeStepInto_record_self]
  simp only [stepArgs, targetMembers_eq_membersOf s htarget, hcap]
  rfl

end

/-! ### A STEP with nothing PENDING (R57) -/

theorem exec_step_eq : ∀ s : State, exec .step s = execStep s := by intros; rfl

theorem idInUse_eq_false {s : State} {id : Half}
    (h : ∀ r, (s.record r).state ≠ .free → (s.record r).stepId ≠ some id) : s.idInUse id = false := by
  simpa [State.idInUse] using h

theorem checkStep_eq_ok {s : State} {o : Order} {a : StepArgs} (hstart : s.startup = false)
    (hparse : parseStep o.body = .ok a)
    (hnew : ∀ r, (s.record r).state ≠ .free → (s.record r).stepId ≠ some a.stepId) (hroom : s.freeOrder ≠ []) :
    checkStep s o = .ok a := by
  simp [checkStep, notInStartup, hstart, hparse, idInUse_eq_false hnew, hroom]

/-- A STEP whose record has no owing member closes with its taking (R57). -/
theorem actStep_eq_of_owing_eq_nil {s : State} {a : StepArgs} {r : RecordId} {free : List RecordId} {n : StepRecord}
    (hfree : s.freeOrder = r :: free) (hrecord : (s.takeStepInto r a).record r = n) (hopen : n.state = .opened)
    (howing : n.owing = []) :
    actStep a s =
      ((s.takeStepInto r a).closeStep r .complete,
        .okStep a.deadline (laneSetOf n.isMember) (n.withOutcome .pending) (n.withOutcome .skipped)
          (n.withOutcome .overrun)) := by
  subst hrecord
  simp [actStep, hfree, State.closingCheck, hopen, howing]

theorem takeStepInto_stepFrame (s : State) (r : RecordId) (a : StepArgs) :
    StepFrame s (s.takeStepInto r a) := by
  have hopen : StepFrame s (s.openStep r a) := by rw [StepFrame, openStep_frame]
  exact hopen.trans (takeStepInto_laneMember s r a).1.stepFrame

/-- Without a PENDING member the take changes no lane (R56, R57). -/
theorem takeStepInto_lanes_of_none_pending {s : State} {r : RecordId} {a : StepArgs}
    (h : ∀ i, inSet (s.targetMembers a.target) i = true → (s.lane i).takeOutcome ≠ .pending) :
    (s.takeStepInto r a).lanes = s.lanes :=
  Vector.ext fun k hk => by
    have hlane := takeStepInto_lane s r a ⟨k, hk⟩
    rw [if_neg fun hp => h _ hp.1 hp.2] at hlane
    exact hlane

theorem closeStep_lanes (s : State) (r : RecordId) (c : CloseCause) : (s.closeStep r c).lanes = s.lanes :=
  Vector.ext fun k hk => closeStep_lane s r c ⟨k, hk⟩

/-- A step that closes with its taking joins the closing list, or its summary enters at once, behind the record's
leaving the free order (R57, R67, R90). -/
theorem closeStep_takeStepInto_closedInto (s : State) (r : RecordId) (a : StepArgs) (c : CloseCause) :
    ClosedInto { s with freeOrder := s.freeOrder.tail } ((s.takeStepInto r a).closeStep r c) [r] := by
  have hframe := (takeStepInto_laneMember s r a).1.state
  rw [openStep_frame] at hframe
  have htaken : ClosedInto { s with freeOrder := s.freeOrder.tail } (s.takeStepInto r a) [] :=
    ClosedInto.nil_of_eq (by rw [hframe]) (by rw [hframe]) (by rw [hframe])
  exact htaken.trans (closeStep_closedInto _ r c) (by simp)

/-- A STEP with nothing PENDING acted on: its ANSWER, and the step table, no lane and nothing else changed (R57). -/
theorem actStep_of_none_pending {s : State} {r : RecordId} {free : List RecordId} {id : Half} {target : StepTarget}
    {stream : Bool} {deadline : Half} {limitGroup : Byte} {stat : Half} {tag : Byte} {command : List Byte}
    (hcap : ∀ i, (s.lane i).takeOutcome = outcomeAtTake (s.lane i))
    (htarget : target.InRange) (hfree : s.freeOrder = r :: free)
    (hpending : s.takenAs (s.membersOf target) .pending = 0#16) :
    ∃ u, actStep (stepArgs id target stream deadline limitGroup stat tag command) s =
        (u, .okStep (max 1 deadline.toNat) (s.membersOf target) 0#16 (s.takenAs (s.membersOf target) .skipped)
          (s.takenAs (s.membersOf target) .overrun))
      ∧ StepFrame s u ∧ u.lanes = s.lanes
      ∧ u.record r =
        { s.openedRecord (s.membersOf target) id stream deadline limitGroup stat tag command with
          state := (u.record r).state, deadline := none, cause := some .complete }
      ∧ (∀ q, q ≠ r → u.record q = (s.record q).forget id)
      ∧ ClosedInto { s with freeOrder := free } u [r] := by
  let a := stepArgs id target stream deadline limitGroup stat tag command
  have hrecord : (s.takeStepInto r a).record r = _ :=
    takeStepInto_openedRecord s id stream deadline limitGroup stat tag command r hcap htarget
  have hact := actStep_eq_of_owing_eq_nil (a := a) hfree hrecord rfl
    (openedRecord_owing_eq_nil s _ id stream deadline limitGroup stat tag command hpending)
  rw [openedRecord_isMember, openedRecord_withOutcome, openedRecord_withOutcome, openedRecord_withOutcome,
    hpending] at hact
  have hnone : ∀ i, inSet (s.targetMembers a.target) i = true → (s.lane i).takeOutcome ≠ .pending := by
    intro i hin htaken
    have hnot := laneSetOf_eq_zero_iff.1 hpending i
    have hmember : inSet (s.membersOf target) i = true := by
      rw [← targetMembers_eq_membersOf s htarget]
      exact hin
    rw [hcap] at htaken
    simp [hmember, htaken] at hnot
  have hclosed := closeStep_takeStepInto_closedInto s r a .complete
  rw [hfree, List.tail_cons] at hclosed
  refine ⟨_, hact, (takeStepInto_stepFrame s r a).trans (closeStep_frame _ r .complete), ?_, ?_, fun q hq => ?_,
    hclosed⟩
  · rw [closeStep_lanes, takeStepInto_lanes_of_none_pending hnone]
  · rw [closeStep_record_self, hrecord]
  · rw [closeStep_record_of_ne _ .complete hq, takeStepInto_record_of_ne s a hq]
    rfl

/-- Settles O10: the order passes `checkStep`, and no member is PENDING, so the step closes with its taking as
`actStep_of_none_pending` says (R57). -/
theorem stepWithNothingPendingClosesAtOnce : Obligations.StepWithNothingPendingClosesAtOnce := by
  intro s o rest r free id target reserved stream deadline limitGroup stat tag command hready hkind hbody hstart hid
    hgroup hcommand htarget hlaw hnew hfree hpending
  have hmine : o.isKind .step = true := by simp [Order.isKind, hkind, OrderKind.code]
  have hparse : parseStep o.body = .ok (stepArgs id target stream deadline limitGroup stat tag command) := by
    rw [hbody, parseStep_stepBody reserved deadline stat tag hid hgroup hcommand htarget]
  have hroom : s.freeOrder ≠ [] := by simp [hfree]
  have hcap : ∀ i, (s.lane i).takeOutcome = outcomeAtTake (s.lane i) := takeOutcome_eq_outcomeAtTake hlaw.capacity
  have hcheck := checkStep_eq_ok (s := s.taken o rest) hstart hparse hnew hroom
  obtain ⟨u, hact, hframe, hlanes, hself, hother, hclosed⟩ := actStep_of_none_pending (s := s.taken o rest) (id := id)
    (stream := stream) (deadline := deadline) (limitGroup := limitGroup) (stat := stat) (tag := tag)
    (command := command) hcap htarget hfree hpending
  rw [exec_step_eq, execStep, serve_ok_of_stepFrame hready hmine hcheck hact hframe, hlanes]
  exact ⟨_, rfl, rfl, hself, hother, hclosed⟩

end Sys2Proof
end

section
/-! PROOFS of the family of RESULTs and summaries: what the dispatcher hands to a destination and how a report is
offered to the bulk queue; with them the frames that go upstream unjudged. -/

namespace Sys2Proof

open Sys2Proof.Machine

/-! ### A served lane (R48) -/

/-- The part with the dispatcher's pointer at a lane and that lane replaced, and nothing else changed. -/
def Machine.State.serving (s : State) (i : LaneId) (l : Lane) : State := { s.withLane i l with pointer := i }

@[simp] theorem serving_lane_self (s : State) (i : LaneId) (l : Lane) : (s.serving i l).lane i = l := by
  simp [State.serving, State.withLane, State.lane]

@[simp] theorem serving_record (s : State) (i : LaneId) (l : Lane) (r : RecordId) :
    (s.serving i l).record r = s.record r := rfl

/-- Dispatch changes the pointer and the served lane's buffer, and nothing else (R48). -/
theorem dispatched_eq_serving {s : State} {i : LaneId} {f : RxFrame} {more : List RxFrame}
    (h : NextFrame s i f more) : s.dispatched i = s.serving i { s.lane i with rxBuffer := more } := by
  simp [State.dispatched, State.updLane, State.serving, State.withLane, h.1]

theorem serving_setFlag (s : State) (i : LaneId) (l : Lane) (g : LaneFlag) :
    (s.serving i l).setFlag i g = s.serving i (flagged l g) := by
  simp [State.setFlag, State.updLane, State.serving, State.withLane, State.lane, flagged]

/-! ### A COPY or TEXT report offered (R166) -/

theorem satIncr_eq_max_min (most n : Nat) : satIncr most n = max n (min most (n + 1)) := by
  unfold satIncr
  split <;> omega

theorem offerBulk_offered (s : State) (r : BulkReport) : BulkOffered s (s.offerBulk r) r := by
  unfold BulkOffered
  rcases offerBulk_cases s r with ⟨hroom, hclosing, h⟩ | ⟨hfull, h⟩ <;> rw [h]
  · simp [hroom, hclosing]
  · rw [if_neg hfull]
    exact ⟨rfl, satIncr_eq_max_min 65535 s.bulkDrops⟩

theorem offerBulk_eq (s : State) (r : BulkReport) :
    s.offerBulk r = { s with bulk := (s.offerBulk r).bulk, bulkDrops := (s.offerBulk r).bulkDrops } := by
  rcases offerBulk_cases s r with ⟨-, -, h⟩ | ⟨-, h⟩ <;> rw [h]

/-- A report offered for a served lane: it sees the bulk queue as it stood before the frame was taken. -/
theorem serving_offerBulk (s : State) (i : LaneId) (l : Lane) (r : BulkReport) :
    (s.serving i l).offerBulk r =
        { s.withLane i l with
          pointer := i, bulk := ((s.serving i l).offerBulk r).bulk
          bulkDrops := ((s.serving i l).offerBulk r).bulkDrops }
      ∧ BulkOffered s ((s.serving i l).offerBulk r) r :=
  ⟨offerBulk_eq (s.serving i l) r, offerBulk_offered (s.serving i l) r⟩

/-! ### RESULT without a judgement (R74, R78) -/

theorem idLate_iff {s : State} {id : Half} :
    s.idLate id = true ↔ ∃ r, (s.record r).state ≠ .opened ∧ (s.record r).stepId = some id := by
  simp [State.idLate]

/-- A lane's entries for one step ID name one record: the ID is that of an OPEN step (R60), which no other record
carries (R51). -/
theorem OwingLaw.record_eq_of_stepId_eq {s : State} (howing : OwingLaw s) (htable : TableLaw s) {i : LaneId}
    {e e' : OutEntry} (he : e ∈ (s.lane i).outstanding) (he' : e' ∈ (s.lane i).outstanding)
    (hid : e'.stepId = e.stepId) : e'.record = e.record := by
  obtain ⟨hentries, -, -⟩ := howing i
  obtain ⟨hopen, hstep, -⟩ := hentries e he
  obtain ⟨hopen', hstep', -⟩ := hentries e' he'
  by_contra hne
  exact htable.distinct _ _ hne (by simp [hopen']) (by simp [hopen]) (by rw [hstep, hstep', hid])

theorem takeResult_of_no_entry {s : State} {i : LaneId} {f : RxFrame}
    (h : ∀ e ∈ (s.lane i).outstanding, e.stepId ≠ halfAt f.payload 0) :
    takeResult i f s = s.strayResult i f (halfAt f.payload 0) := by
  simp only [takeResult]
  split
  next => rfl
  next e hfind =>
    have hid : e.stepId = (resultOfPayload f.payload).stepId := by simpa using List.find?_some hfind
    exact absurd hid (h e (List.mem_of_find?_eq_some hfind))

/-- The tag that counts is that of the record which the lane's entries for the step ID name. -/
theorem takeResult_of_other_tag {s : State} {i : LaneId} {f : RxFrame} {e : OutEntry}
    (he : e ∈ (s.lane i).outstanding) (hid : e.stepId = halfAt f.payload 0)
    (hrecord : ∀ e' ∈ (s.lane i).outstanding, e'.stepId = e.stepId → e'.record = e.record)
    (htag : byteAt f.payload 2 ≠ (s.record e.record).tag) : takeResult i f s = s.badTagResult i f := by
  simp only [takeResult]
  split
  next hfind => exact absurd (decide_eq_true hid) (List.find?_eq_none.1 hfind e he)
  next e' hfind =>
    have hid' : e'.stepId = (resultOfPayload f.payload).stepId := by simpa using List.find?_some hfind
    have hsame : e'.record = e.record := hrecord e' (List.mem_of_find?_eq_some hfind) (hid'.trans hid.symm)
    exact if_neg (by rwa [hsame])

theorem strayResult_serving (s : State) (i : LaneId) (l : Lane) (f : RxFrame) (id : Half) :
    (s.serving i l).strayResult i f id =
      if ∃ r, (s.record r).state ≠ .opened ∧ (s.record r).stepId = some id then
        (s.serving i (flagged (flagged l .stray) .late)).offerBulk (.text i .late f.kind f.seq f.payload)
      else (s.serving i (flagged l .stray)).offerBulk (.text i .stray f.kind f.seq f.payload) := by
  simp only [State.strayResult, State.reportUnjudged, idLate_iff, serving_record, serving_setFlag]

theorem badTagResult_serving (s : State) (i : LaneId) (l : Lane) (f : RxFrame) :
    (s.serving i l).badTagResult i f =
      (s.serving i (flagged (flagged l .badTag) .stray)).offerBulk (.text i .stray f.kind f.seq f.payload) := by
  simp only [State.badTagResult, State.reportUnjudged, serving_setFlag]

/-! ### The destinations take the next frame (R49) -/

theorem exec_result_eq : ∀ s : State, exec .result s = execResult s := by intros; rfl

theorem exec_text_eq : ∀ s : State, exec .text s = execText s := by intros; rfl

theorem exec_result_of_nextFrame {s : State} {i : LaneId} {f : RxFrame} {more : List RxFrame}
    (hnext : NextFrame s i f more) (happ : f.framing = .app) (hkind : f.kind = 0x11#8) :
    exec .result s = .next (takeResult i f (s.serving i { s.lane i with rxBuffer := more })) := by
  have hmine : f.isApp kindResult = true := by simp [RxFrame.isApp, happ, hkind, kindResult]
  rw [exec_result_eq, execResult, dispatch_of_nextFrame hnext hmine, dispatched_eq_serving hnext]

theorem exec_text_of_nextFrame {s : State} {i : LaneId} {f : RxFrame} {more : List RxFrame}
    (hnext : NextFrame s i f more) (h : f.framing = .loader ∨ f.kind = 0x12#8) :
    exec .text s = .next (takeText i f (s.serving i { s.lane i with rxBuffer := more })) := by
  have hmine : (f.isApp kindText || f.framing == .loader) = true := by
    cases hf : f.framing with
    | app => simpa [RxFrame.isApp, hf, kindText] using h
    | loader => simp
  rw [exec_text_eq, execText, dispatch_of_nextFrame hnext hmine, dispatched_eq_serving hnext]

/-- Settles O50: each frame reaches its destination (`exec_result_of_nextFrame`, `exec_text_of_nextFrame`); a RESULT
is found stray by `takeResult_of_no_entry`, or of another tag by `takeResult_of_other_tag`, since the entries for one
step ID name one record; what is left is a report offered for the served lane (`serving_offerBulk`). -/
theorem unjudgedFramesGoUpstreamAsText : Obligations.UnjudgedFramesGoUpstreamAsText := by
  rintro s i f more l hnext rfl
  refine ⟨fun happ hkind hnone => ?_, fun e he howing htable happ hkind hid htag => ?_, fun h => ?_⟩
  · rw [exec_result_of_nextFrame hnext happ hkind, takeResult_of_no_entry (by simpa using hnone),
      strayResult_serving, hkind]
    refine ⟨_, rfl, ?_⟩
    split
    · exact serving_offerBulk s i _ _
    · exact serving_offerBulk s i _ _
  · have hrecord : ∀ e' ∈ (s.lane i).outstanding, e'.stepId = e.stepId → e'.record = e.record :=
      fun e' he' => howing.record_eq_of_stepId_eq htable he he'
    rw [exec_result_of_nextFrame hnext happ hkind,
      takeResult_of_other_tag (by simpa using he) hid (by simpa using hrecord) (by simpa using htag),
      badTagResult_serving, hkind]
    exact ⟨_, rfl, serving_offerBulk s i _ _⟩
  · rw [exec_text_of_nextFrame hnext h]
    exact ⟨_, rfl, serving_offerBulk s i _ _⟩

end Sys2Proof
end

section
/-! PROOFS of the family of limits and judging: the rounding of quotients with the rescaling and the means that rest
on it; what one limit entry gives and what a sorted list of findings gives together; the images of the four READs. -/

namespace Sys2Proof

open Sys2Proof.Machine

/-! ### Rounded quotients (R108, R117) -/

/-- A quotient carries the sign of what is divided, and its magnitude is the nearest one, the larger where two are
equally near. -/
theorem divRound_eq_signed_magnitude (v : Int) {d : Nat} (hd : 0 < d) :
    ∃ q : Nat, divRound v d = (if v < 0 then -(q : Int) else q)
      ∧ 2 * v.natAbs < 2 * (q * d) + d ∧ 2 * (q * d) ≤ 2 * v.natAbs + d := by
  refine ⟨_, rfl, ?_⟩
  have hdiv := Nat.div_add_mod' v.natAbs d
  have hmod := Nat.mod_lt v.natAbs hd
  split
  · rw [Nat.add_mul]
    omega
  · rw [Nat.add_zero]
    omega

/-- A quotient is a nearest whole number, and a tie goes away from zero. -/
theorem divRound_nearest (v : Int) {d : Nat} (hd : 0 < d) :
    2 * (v - divRound v d * d).natAbs ≤ d
      ∧ (2 * (v - divRound v d * d).natAbs = d → v.natAbs < (divRound v d).natAbs * d) := by
  obtain ⟨q, hq, hlow, hhigh⟩ := divRound_eq_signed_magnitude v hd
  have hmagnitude : (divRound v d).natAbs = q := by
    rw [hq]
    split <;> simp
  have hproduct : divRound v d * d = if v < 0 then -((q * d : Nat) : Int) else (q * d : Nat) := by
    rw [hq]
    split <;> simp
  rw [hmagnitude, hproduct]
  generalize q * d = p at *
  split <;> omega

/-- A quotient lies between any two whole numbers the exact quotient lies between. -/
theorem divRound_mem_range {v a b : Int} {d : Nat} (hd : 0 < d) (ha : a * d ≤ v) (hb : v ≤ b * d) :
    a ≤ divRound v d ∧ divRound v d ≤ b := by
  have hnear := (divRound_nearest v hd).1
  have hpos : (0 : Int) < d := by exact_mod_cast hd
  generalize divRound v d = q at *
  constructor <;> by_contra hout
  · have := Int.mul_le_mul_of_nonneg_right (show q + 1 ≤ a by omega) hpos.le
    rw [Int.add_mul] at this
    omega
  · have := Int.mul_le_mul_of_nonneg_right (show b + 1 ≤ q by omega) hpos.le
    rw [Int.add_mul] at this
    omega

/-! ### Rescaled values (R106 to R108) -/

/-- A saturated product lies in the signed 32-bit range: exact where it fits, else the end on its side, CLAMPED. -/
theorem saturate_spec (p : Int) :
    (-2147483648 ≤ (saturate p).value ∧ (saturate p).value ≤ 2147483647)
      ∧ ((saturate p).clamped = false → (saturate p).value = p)
      ∧ ((saturate p).clamped = true →
        (p < -2147483648 ∧ (saturate p).value = -2147483648)
          ∨ (2147483647 < p ∧ (saturate p).value = 2147483647)) := by
  by_cases habove : 2147483647 < p
  · simp [saturate, int32Max, habove]
  · by_cases hbelow : p < -2147483648
    · simp [saturate, int32Max, int32Min, habove, hbelow]
    · simp [saturate, int32Max, int32Min, habove, hbelow, Int.not_lt.1 habove, Int.not_lt.1 hbelow]

theorem rescale_of_nonneg {v d : Int} (hlow : -2147483648 ≤ v) (hhigh : v ≤ 2147483647) (hd : 0 ≤ d) :
    rescale v d = saturate (v * 10 ^ d.toNat) := by
  unfold rescale
  split
  next hzero =>
    subst hzero
    simp [saturate, int32Max, int32Min, Int.not_lt.2 hlow, Int.not_lt.2 hhigh]
  next hne => rw [if_pos (by omega)]

theorem rescale_of_neg (v : Int) {d : Int} (hd : d < 0) :
    rescale v d = { value := divRound v (10 ^ (-d).toNat), clamped := false } := by
  rw [rescale, if_neg (by omega), if_neg (by omega)]

/-- A rescaled quotient stays in the signed 32-bit range, since its divisor is at least 1. -/
theorem divRound_pow_mem_int32 {v : Int} (n : Nat) (hlow : -2147483648 ≤ v) (hhigh : v ≤ 2147483647) :
    -2147483648 ≤ divRound v (10 ^ n) ∧ divRound v (10 ^ n) ≤ 2147483647 := by
  have hpos : 0 < 10 ^ n := by positivity
  have hone : ((1 : Nat) : Int) ≤ (10 ^ n : Nat) := by exact_mod_cast hpos
  exact divRound_mem_range hpos (by omega) (by omega)

/-! ### The statistics of a summary (R89, R116, R117) -/

/-- A count above 0 has statistics: the length, a least and a greatest value, and the rounded mean. -/
theorem statistics_eq_some {l : List Int} {st : Statistics} (h : statistics l = some st) :
    0 < l.length ∧ st.count = l.length ∧ l.min? = some st.minimum ∧ l.max? = some st.maximum
      ∧ st.mean = divRound l.sum l.length := by
  cases l with
  | nil => cases h
  | cons v rest =>
    cases h
    exact ⟨Nat.succ_pos _, rfl, List.min?_cons', List.max?_cons', rfl⟩

/-- Settles O55: a factor of 10 goes through `saturate_spec`, a divisor through `divRound_nearest`; a mean is such a
quotient, and lies between the extremes by `divRound_mem_range`, as the sum lies between their multiples. -/
theorem rescaledValuesAndMeansStayInRange : Obligations.RescaledValuesAndMeansStayInRange := by
  refine ⟨fun v d hlow hhigh => ?_, fun l st h => ?_⟩
  · rcases Int.lt_or_le d 0 with hneg | hnonneg
    · obtain ⟨hnear, htie⟩ := divRound_nearest v (d := 10 ^ (-d).toNat) (by positivity)
      push_cast at hnear htie
      rw [rescale_of_neg v hneg]
      exact ⟨divRound_pow_mem_int32 _ hlow hhigh, fun hd => by omega, fun hd => by omega,
        fun _ => ⟨rfl, hnear, htie⟩⟩
    · obtain ⟨hrange, hexact, hclamped⟩ := saturate_spec (v * 10 ^ d.toNat)
      rw [rescale_of_nonneg hlow hhigh hnonneg]
      exact ⟨hrange, fun _ => hexact, fun _ => hclamped, fun hd => by omega⟩
  · obtain ⟨hpos, hcount, hmin, hmax, hmean⟩ := statistics_eq_some h
    obtain ⟨hminMem, hminLe⟩ := List.min?_eq_some_iff.1 hmin
    obtain ⟨hmaxMem, hmaxLe⟩ := List.max?_eq_some_iff.1 hmax
    have hsumLow : st.minimum * l.length ≤ l.sum := by
      simpa [Int.mul_comm] using List.card_nsmul_le_sum l st.minimum hminLe
    have hsumHigh : l.sum ≤ st.maximum * l.length := by
      simpa [Int.mul_comm] using List.sum_le_card_nsmul l st.maximum hmaxLe
    obtain ⟨hmeanLow, hmeanHigh⟩ := divRound_mem_range hpos hsumLow hsumHigh
    obtain ⟨hnear, htie⟩ := divRound_nearest l.sum hpos
    rw [hmean]
    exact ⟨hcount, hminMem, hmaxMem, fun v hv => ⟨hminLe v hv, hmaxLe v hv⟩, hmeanLow, hmeanHigh, hnear, htie⟩

/-! ### One entry (R103 to R112) -/

/-- A field entry gives the reason its field cannot be read, or what its check makes of the field (R103). -/
theorem withField_eq (r : ResultPayload) (e : LimitEntry) (check : Field → EntryFinding) :
    withField r e check =
      match r.fields[e.fieldIndex.toNat]? with
      | none => failEntry .missingField
      | some f => if f.exponent < -12 ∨ 12 < f.exponent then failEntry .badField else check f := by
  unfold withField readField
  cases r.fields[e.fieldIndex.toNat]? with
  | none => rfl
  | some f =>
    by_cases hbad : f.exponent < -12 ∨ 12 < f.exponent
    · have hread : ¬(-12 ≤ f.exponent ∧ f.exponent ≤ 12) := by omega
      simp [hbad, hread]
    · have hread : -12 ≤ f.exponent ∧ f.exponent ≤ 12 := by omega
      simp [hbad, hread]

theorem judgeEntry_of_range (r : ResultPayload) {e : LimitEntry} (h : e.kind = 0x00#8) :
    judgeEntry r e = withField r e (judgeBounded e judgeRange) := by simp [judgeEntry, LimitEntry.kind?, h]

theorem judgeEntry_of_outside (r : ResultPayload) {e : LimitEntry} (h : e.kind = 0x01#8) :
    judgeEntry r e = withField r e (judgeBounded e judgeOutside) := by simp [judgeEntry, LimitEntry.kind?, h]

theorem judgeEntry_of_digest (r : ResultPayload) {e : LimitEntry} (h : e.kind = 0x02#8) :
    judgeEntry r e = judgeDigest e r.blob := by simp [judgeEntry, LimitEntry.kind?, h]

theorem judgeEntry_of_present (r : ResultPayload) {e : LimitEntry} (h : e.kind = 0x03#8) :
    judgeEntry r e = withField r e fun _ => passEntry := by simp [judgeEntry, LimitEntry.kind?, h]

/-- A finding is a verdict on its entry, and it has a reason exactly where that verdict is FAIL (R102, R112). -/
def Machine.EntryFinding.Judged (f : EntryFinding) : Prop :=
  f.verdict ≠ .none ∧ (f.reason = none ↔ f.verdict ≠ .fail)

theorem failEntry_judged (reason : FailReason) : (failEntry reason).Judged := by
  simp [EntryFinding.Judged, failEntry]

theorem passEntry_judged : passEntry.Judged := by simp [EntryFinding.Judged, passEntry]

theorem judgeRange_judged (e : LimitEntry) (w : Int) : (judgeRange e w).Judged := by
  unfold judgeRange
  dsimp only
  split_ifs <;> simp [EntryFinding.Judged]

theorem judgeOutside_judged (e : LimitEntry) (w : Int) : (judgeOutside e w).Judged := by
  unfold judgeOutside
  dsimp only
  split_ifs <;> simp [EntryFinding.Judged]

theorem judgeBounded_eq (e : LimitEntry) (check : LimitEntry → Int → EntryFinding) :
    judgeBounded e check = fun f =>
      if (rescale f.value (f.exponent - e.exponent.toInt)).clamped = true then failEntry .clamped
      else check e (rescale f.value (f.exponent - e.exponent.toInt)).value := rfl

theorem judgeBounded_judged {e : LimitEntry} {check : LimitEntry → Int → EntryFinding}
    (h : ∀ w, (check e w).Judged) (f : Field) : (judgeBounded e check f).Judged := by
  rw [judgeBounded_eq]
  dsimp only
  split
  · exact failEntry_judged _
  · exact h _

theorem judgeDigest_judged (e : LimitEntry) (blob : List Byte) : (judgeDigest e blob).Judged := by
  unfold judgeDigest
  split_ifs
  · exact failEntry_judged _
  · exact passEntry_judged
  · exact failEntry_judged _

theorem withField_judged {r : ResultPayload} {e : LimitEntry} {check : Field → EntryFinding}
    (h : ∀ f, (check f).Judged) : (withField r e check).Judged := by
  unfold withField
  split
  · exact failEntry_judged _
  · exact h _

theorem judgeEntry_judged (r : ResultPayload) (e : LimitEntry) : (judgeEntry r e).Judged := by
  unfold judgeEntry
  split
  · exact withField_judged (judgeBounded_judged (judgeRange_judged e))
  · exact withField_judged (judgeBounded_judged (judgeOutside_judged e))
  · exact withField_judged fun _ => passEntry_judged
  · exact judgeDigest_judged e r.blob
  · exact passEntry_judged

/-! ### The applied entries (R101) -/

theorem mem_appliedFindings {limits : Vector LimitEntry 256} {group tag : Byte} {r : ResultPayload}
    {k : LimitId} {f : EntryFinding} :
    (k, f) ∈ appliedFindings limits group tag r ↔
      entryApplies group tag limits[k] = true ∧ f = judgeEntry r limits[k] := by
  constructor
  · intro h
    obtain ⟨k', hk', heq⟩ := List.mem_map.1 h
    cases heq
    exact ⟨(List.mem_filter.1 hk').2, rfl⟩
  · rintro ⟨happlies, rfl⟩
    exact List.mem_map.2 ⟨k, List.mem_filter.2 ⟨List.mem_finRange k, happlies⟩, rfl⟩

theorem appliedFindings_pairwise_lt (limits : Vector LimitEntry 256) (group tag : Byte) (r : ResultPayload) :
    (appliedFindings limits group tag r).Pairwise fun x y => x.1 < y.1 :=
  List.pairwise_map.2 ((List.pairwise_lt_finRange 256).filter _)

theorem entryApplies_iff {group tag : Byte} {e : LimitEntry} :
    entryApplies group tag e = true ↔ e.valid = true ∧ group ≠ 0x00#8 ∧ e.group = group ∧ e.tag = tag := by
  simp [entryApplies, and_assoc]

/-! ### The worst verdict (R1, R102) -/

theorem worse_eq_worseOf (a b : Verdict) : a.worse b = worseOf a b := by cases a <;> cases b <;> rfl

theorem worseOf_eq_right_iff {a b : Verdict} : worseOf a b = b ↔ a.rank ≤ b.rank := by
  cases a <;> cases b <;> decide

theorem eq_none_of_rank_le {a : Verdict} (h : a.rank ≤ Verdict.none.rank) : a = .none := by
  cases a <;> simp [Verdict.rank] at h ⊢

theorem eq_fail_of_rank_ge {a : Verdict} (h : Verdict.fail.rank ≤ a.rank) : a = .fail := by
  cases a <;> simp [Verdict.rank] at h ⊢

/-- The worst of verdicts from one on is none of them better than it, and is one of them. -/
theorem foldl_worse_spec (l : List (LimitId × EntryFinding)) (v : Verdict) :
    let worst := l.foldl (fun v e => v.worse e.2.verdict) v
    v.rank ≤ worst.rank ∧ (∀ e ∈ l, e.2.verdict.rank ≤ worst.rank)
      ∧ (worst = v ∨ ∃ e ∈ l, e.2.verdict = worst) := by
  induction l generalizing v with
  | nil => simp
  | cons e l ih =>
    obtain ⟨hstart, hall, hone⟩ := ih (v.worse e.2.verdict)
    simp only [List.foldl_cons, List.forall_mem_cons, List.exists_mem_cons_iff]
    generalize l.foldl (fun v e => v.worse e.2.verdict) (v.worse e.2.verdict) = worst at *
    unfold Verdict.worse at hstart hone
    split at hstart
    next hlt =>
      rw [if_pos hlt] at hone
      exact ⟨hlt.le.trans hstart, ⟨hstart, hall⟩, .inr (hone.imp_left Eq.symm)⟩
    next hge =>
      rw [if_neg hge] at hone
      exact ⟨hstart, ⟨(Nat.not_lt.1 hge).trans hstart, hall⟩, hone.imp_right .inr⟩

theorem le_worstVerdict {l : List (LimitId × EntryFinding)} {e : LimitId × EntryFinding} (h : e ∈ l) :
    e.2.verdict.rank ≤ (worstVerdict l).rank := (foldl_worse_spec l .none).2.1 e h

theorem exists_of_worstVerdict_ne_none {l : List (LimitId × EntryFinding)} (h : worstVerdict l ≠ .none) :
    ∃ e ∈ l, e.2.verdict = worstVerdict l := (foldl_worse_spec l .none).2.2.resolve_left h

theorem worstVerdict_eq_fail_iff {l : List (LimitId × EntryFinding)} :
    worstVerdict l = .fail ↔ ∃ e ∈ l, e.2.verdict = .fail := by
  constructor
  · intro h
    obtain ⟨e, he, hworst⟩ := exists_of_worstVerdict_ne_none (l := l) (by simp [h])
    exact ⟨e, he, hworst.trans h⟩
  · rintro ⟨e, he, hfail⟩
    exact eq_fail_of_rank_ge (hfail ▸ le_worstVerdict he)

/-- Where every entry is judged, NONE says that there is no entry. -/
theorem worstVerdict_eq_none_iff {l : List (LimitId × EntryFinding)} (h : ∀ e ∈ l, e.2.Judged) :
    worstVerdict l = .none ↔ ∀ e, e ∉ l := by
  constructor
  · intro hnone e he
    exact (h e he).1 (eq_none_of_rank_le (hnone ▸ le_worstVerdict he))
  · intro hempty
    by_contra hne
    obtain ⟨e, he, -⟩ := exists_of_worstVerdict_ne_none hne
    exact hempty e he

/-! ### First failure, critical mark and statistic value (R112, R113, R115) -/

theorem firstFailureOf_eq_none_iff {l : List (LimitId × EntryFinding)} (h : ∀ e ∈ l, e.2.Judged) :
    firstFailureOf l = none ↔ worstVerdict l ≠ .fail := by
  rw [firstFailureOf, List.findSome?_eq_none_iff, ne_eq, worstVerdict_eq_fail_iff]
  push Not
  refine forall₂_congr fun e he => ?_
  rw [Option.map_eq_none_iff]
  exact (h e he).2

/-- A first failure is that of an entry which no failing entry of the list stands before. -/
theorem of_firstFailureOf_eq_some {l : List (LimitId × EntryFinding)} (h : ∀ e ∈ l, e.2.Judged)
    (hsorted : l.Pairwise fun x y => x.1 < y.1) {reason : FailReason} {k : LimitId}
    (hfirst : firstFailureOf l = some (reason, k)) :
    ∃ f, (k, f) ∈ l ∧ f.verdict = .fail ∧ f.reason = some reason
      ∧ ∀ e ∈ l, e.1 < k → e.2.verdict ≠ .fail := by
  obtain ⟨before, e, after, rfl, he, hbefore⟩ := List.findSome?_eq_some_iff.1 hfirst
  obtain ⟨reason', hreason, heq⟩ := Option.map_eq_some_iff.1 he
  cases heq
  have hmem : e ∈ before ++ e :: after := by simp
  obtain ⟨-, hcons, -⟩ := List.pairwise_append.1 hsorted
  refine ⟨e.2, hmem, ?_, hreason, fun e' he' hlt => ?_⟩
  · by_contra hne
    simp [(h e hmem).2.2 hne] at hreason
  · have hin : e' ∈ before := by
      rcases List.mem_append.1 he' with hin | hin
      · exact hin
      · rcases List.mem_cons.1 hin with rfl | hin
        · exact absurd hlt (lt_irrefl _)
        · exact absurd hlt (((List.pairwise_cons.1 hcons).1 e' hin).not_gt)
    exact (h e' he').2.1 (Option.map_eq_none_iff.1 (hbefore e' hin))

theorem criticalFailure_eq_true_iff {limits : Vector LimitEntry 256} {l : List (LimitId × EntryFinding)} :
    criticalFailure limits l = true ↔
      ∃ e ∈ l, limits[e.1].severity = 0x01#8 ∧ e.2.verdict = .fail := by
  simp [criticalFailure, LimitEntry.critical, and_comm]

/-- The statistic value is that of the one finding the list holds for the statistic entry. -/
theorem statisticOf_some_of_mem {l : List (LimitId × EntryFinding)} {k : LimitId} {f : EntryFinding}
    (hmem : (k, f) ∈ l) (honly : ∀ f', (k, f') ∈ l → f' = f) : statisticOf (some k) l = f.value := by
  rw [statisticOf, Option.bind_some]
  cases hfind : l.find? fun e => e.1 = k with
  | none => exact absurd (decide_eq_true rfl) (List.find?_eq_none.1 hfind (k, f) hmem)
  | some e =>
    obtain ⟨k', f'⟩ := e
    have hk : k' = k := by simpa using List.find?_some hfind
    subst hk
    rw [Option.bind_some, honly f' (List.mem_of_find?_eq_some hfind)]

theorem statisticOf_some_of_not_mem {l : List (LimitId × EntryFinding)} {k : LimitId} (h : ∀ f, (k, f) ∉ l) :
    statisticOf (some k) l = none := by
  have hfind : l.find? (fun e => e.1 = k) = none :=
    List.find?_eq_none.2 fun e he hk => h e.2 (of_decide_eq_true hk ▸ he)
  rw [statisticOf, Option.bind_some, hfind, Option.bind_none]

/-! ### The two halves put together -/

/-- A RANGE, OUTSIDE or PRESENT entry on its field, in the terms of the statement (R103 to R109). -/
theorem judgeEntry_of_field (r : ResultPayload) {e : LimitEntry}
    (hkind : e.kind = 0x00#8 ∨ e.kind = 0x01#8 ∨ e.kind = 0x03#8) :
    judgeEntry r e = withField r e fun f =>
      if e.kind = 0x03#8 then passEntry
      else if (rescale f.value (f.exponent - e.exponent.toInt)).clamped = true then failEntry .clamped
      else if e.kind = 0x00#8 then judgeRange e (rescale f.value (f.exponent - e.exponent.toInt)).value
      else judgeOutside e (rescale f.value (f.exponent - e.exponent.toInt)).value := by
  rcases hkind with h | h | h
  · simp [judgeEntry_of_range r h, h, judgeBounded_eq]
  · simp [judgeEntry_of_outside r h, h, judgeBounded_eq]
  · simp [judgeEntry_of_present r h, h]

/-- Settles O56: per kind by `judgeRange`, `judgeOutside`, `judgeEntry_of_field` and `judgeEntry_of_digest`; together
by what the worst verdict, the first failure, the critical mark and the statistic value are of a sorted list of judged
findings, which `appliedFindings` is. -/
theorem entryVerdictsAndTheWorstOfThem : Obligations.EntryVerdictsAndTheWorstOfThem := by
  refine ⟨?_, fun r e => ⟨fun hkind => ?_, fun hkind => judgeEntry_of_digest r hkind⟩, ?_⟩
  · rintro e w low high g rfl rfl rfl
    constructor
    · unfold judgeRange
      dsimp only
      split_ifs <;> rfl
    · unfold judgeOutside
      dsimp only
      split_ifs <;> rfl
  · rw [judgeEntry_of_field r hkind, withField_eq]
    cases r.fields[e.fieldIndex.toNat]? with
    | none => rfl
    | some f => dsimp only; split_ifs <;> rfl
  · rintro limits group tag stat r applies g happlies rfl
    have hmem : ∀ k f, (k, f) ∈ appliedFindings limits group tag r ↔
        applies k ∧ f = judgeEntry r limits[k] := fun k f => by
      rw [mem_appliedFindings, entryApplies_iff, happlies]
    have hself : ∀ k, applies k → (k, judgeEntry r limits[k]) ∈ appliedFindings limits group tag r :=
      fun k hk => (hmem k _).2 ⟨hk, rfl⟩
    have hjudged : ∀ e ∈ appliedFindings limits group tag r, e.2.Judged := fun e he => by
      rw [((hmem e.1 e.2).1 he).2]
      exact judgeEntry_judged r _
    have hsorted := appliedFindings_pairwise_lt limits group tag r
    unfold judge
    generalize appliedFindings limits group tag r = l at *
    dsimp only
    refine ⟨?_, fun k hk => ?_, fun hne => ?_, firstFailureOf_eq_none_iff hjudged, fun k reason hfirst => ?_, ?_,
      fun k hstat hk => ?_, ?_⟩
    · rw [worstVerdict_eq_none_iff hjudged]
      exact ⟨fun hempty k hk => hempty _ (hself k hk), fun hnone e he => hnone e.1 ((hmem e.1 e.2).1 he).1⟩
    · exact worseOf_eq_right_iff.2 (le_worstVerdict (hself k hk))
    · obtain ⟨e, he, hworst⟩ := exists_of_worstVerdict_ne_none hne
      obtain ⟨hk, hf⟩ := (hmem e.1 e.2).1 he
      exact ⟨e.1, hk, by rw [← hf, hworst]⟩
    · obtain ⟨f, hf, hfail, hreason, hlowest⟩ := of_firstFailureOf_eq_some hjudged hsorted hfirst
      obtain ⟨hk, rfl⟩ := (hmem k f).1 hf
      exact ⟨hk, hfail, hreason, fun k' hk' hlt => hlowest _ (hself k' hk') hlt⟩
    · rw [criticalFailure_eq_true_iff]
      constructor
      · rintro ⟨e, he, hcritical, hfail⟩
        obtain ⟨hk, hf⟩ := (hmem e.1 e.2).1 he
        exact ⟨e.1, hk, hcritical, hf ▸ hfail⟩
      · rintro ⟨k, hk, hcritical, hfail⟩
        exact ⟨_, hself k hk, hcritical, hfail⟩
    · rw [hstat]
      exact statisticOf_some_of_mem (hself k hk) fun f' hf' => ((hmem k f').1 hf').2
    · rintro (rfl | ⟨k, rfl, hk⟩)
      · rfl
      · exact statisticOf_some_of_not_mem fun f hf => hk ((hmem k f).1 hf).1

/-! ### The images of a lane byte by byte (R196, R203) -/

theorem identityBytes_length (identity : Option (List Byte)) : (identityBytes identity).length = 25 := by
  simp [identityBytes]

/-- An identity stands behind its length byte, with 00h after its end. -/
theorem byteAt_identityBytes_succ (identity : Option (List Byte)) (k : Fin 24) :
    byteAt (identityBytes identity) (1 + k.val) = byteAt (identity.getD []) k.val := by
  rw [Nat.add_comm]
  simp only [byteAt, identityBytes, List.getD_eq_getElem?_getD, List.getElem?_cons_succ]
  rw [List.getElem?_take_of_lt k.isLt]
  rcases Nat.lt_or_ge k.val (identity.getD []).length with hin | hpast
  · rw [List.getElem?_append_left hin]
  · have hpad : k.val - (identity.getD []).length < 24 := by omega
    rw [List.getElem?_append_right hpast, List.getElem?_replicate, if_pos hpad, List.getElem?_eq_none hpast]
    rfl

theorem rosterImage_rosterBytes (l : Lane) : RosterImage l (rosterBytes l) := by
  have hbyte : ∀ k, byteAt (rosterBytes l) (6 + k) = byteAt (identityBytes l.identity) k := fun k => by
    cases ha : l.announce <;> simp [rosterBytes, announceBytes, ha, byteAt, Nat.add_comm 6]
  refine ⟨?_, ?_, ?_, rfl, ?_, ?_, ?_, hbyte 0, fun k => ?_⟩
  · cases ha : l.announce <;> simp [rosterBytes, announceBytes, ha, identityBytes_length]
  · cases hs : l.state <;> simp [rosterBytes, byteAt, hs, LaneState.code]
  · cases hm : l.mode <;> simp [rosterBytes, byteAt, hm, modeByte]
  · rcases hr : l.resume with - | - | - | - <;> simp [rosterBytes, byteAt, hr, resumeByte]
  · cases ha : l.announce <;> simp [rosterBytes, byteAt, ha, announceBytes]
  · cases ha : l.announce <;> simp [rosterBytes, byteAt, ha, announceBytes, byteOf]
  · have h := hbyte (1 + k.val)
    rwa [← Nat.add_assoc, byteAt_identityBytes_succ] at h

theorem firstFailureBytes_length (f : Option FirstFailure) : (firstFailureBytes f).length = 6 := by
  rcases f with - | ⟨- | -⟩ <;> rfl

theorem boardBytes_length (v : VerdictRecord) : (boardBytes v).length = 14 := by
  simp [boardBytes, firstFailureBytes_length, le16Nat, le16]

theorem verdictCode_eq_verdictByte (v : Verdict) : v.code = verdictByte v := by cases v <;> rfl

/-- A verdict record's bytes are its image, whatever follows them. -/
theorem verdictImage_boardBytes_append (v : VerdictRecord) (after : List Byte) :
    VerdictImage v (boardBytes v ++ after) := by
  refine ⟨verdictCode_eq_verdictByte v.verdict, rfl, half_le16 _, half_le16 _, half_le16 _, ?_⟩
  rcases hf : v.firstFailure with - | ⟨stepId, tag, reason, index⟩ | -
  · simp [boardBytes, hf, firstFailureBytes, le16Nat, le16, byteAt, halfAt, half]
  · simp [boardBytes, hf, firstFailureBytes, le16Nat, le16, byteAt, halfAt, half_le16, byteOf]
    cases reason <;> rfl
  · simp [boardBytes, hf, firstFailureBytes, le16Nat, le16, byteAt, halfAt, half]

/-- The nine bytes of a BOARD image behind the verdict record (R138, R203). -/
def Machine.Lane.lineBytes (l : Lane) : List Byte :=
  [levelByte l.power, levelByte l.keyPulse.isSome] ++ le16Nat (l.keyPulse.getD 0)
    ++ [levelByte l.reject, levelByte l.rawSeat, levelByte l.seat, levelByte l.settings.rejectEnable,
      levelByte l.settings.autoPower]

theorem boardImageBytes_eq_append (l : Lane) : boardImageBytes l = boardBytes l.board ++ l.lineBytes := by
  simp [boardImageBytes, Lane.lineBytes]

theorem boardImage_boardImageBytes (l : Lane) : BoardImage l (boardImageBytes l) := by
  have hbyte : ∀ k, byteAt (boardImageBytes l) (14 + k) = byteAt l.lineBytes k := fun k => by
    simp [boardImageBytes_eq_append, byteAt, List.getElem?_append_right, boardBytes_length]
  have hpulse : halfAt (boardImageBytes l) 16 = BitVec.ofNat 16 (l.keyPulse.getD 0) :=
    (congrArg₂ half (hbyte 2) (hbyte 3)).trans (half_le16 _)
  refine ⟨?_, ?_, hbyte 0, hbyte 1, hpulse, hbyte 4, hbyte 5, hbyte 6, hbyte 7, hbyte 8⟩
  · rw [boardImageBytes_eq_append, List.length_append, boardBytes_length]
    rfl
  · rw [boardImageBytes_eq_append]
    exact verdictImage_boardBytes_append l.board l.lineBytes

/-! ### Runs of images of one size -/

theorem length_flatten_of_length_eq {size : Nat} {images : List (List Byte)} (h : ∀ b ∈ images, b.length = size) :
    images.flatten.length = size * images.length := by
  rw [List.length_flatten, List.map_congr_left h]
  simp [Nat.mul_comm]

theorem imageAt_flatten {size : Nat} {images : List (List Byte)} (h : ∀ b ∈ images, b.length = size) {k : Nat}
    (hk : k < images.length) : imageAt size k images.flatten = images[k] := by
  induction images generalizing k with
  | nil => simp at hk
  | cons b images ih =>
    obtain ⟨hb, hrest⟩ := List.forall_mem_cons.1 h
    cases k with
    | zero => simp [imageAt, ← hb]
    | succ k =>
      have hlater := ih hrest (k := k) (by simpa using hk)
      have hskip : size * (k + 1) = b.length + size * k := by rw [hb, Nat.mul_succ, Nat.add_comm]
      simpa [imageAt, hskip] using hlater

theorem filter_range_eq_range' {n a c : Nat} (h : a + c ≤ n) :
    ((List.range n).filter fun m => a ≤ m ∧ m < a + c) = List.range' a c := by
  refine List.Pairwise.eq_of_mem_iff (r := (· < ·)) (List.pairwise_lt_range.filter _) List.pairwise_lt_range'
    fun m => ?_
  simp only [List.mem_filter, List.mem_range, decide_eq_true_eq, List.mem_range'_1]
  omega

/-! ### READ, table by table (R182) -/

/-- The command that takes a READ of a table. -/
def Machine.Table.readCommand : Table → Instr
  | .limit => .readLimit
  | .group => .readGroup
  | .roster => .readRoster
  | .board => .readBoard

/-- The orders that command takes: those of kind READ whose body names its table, and for LIMIT those that name no
other. -/
def Machine.Table.takesRead : Table → Order → Bool
  | .limit, o => o.isKind .read && !o.names .group && !o.names .roster && !o.names .board
  | .group, o => o.isKind .read && o.names .group
  | .roster, o => o.isKind .read && o.names .roster
  | .board, o => o.isKind .read && o.names .board

/-- The image a READ of a table returns for an index (R52, R100, R138, R183). -/
def Machine.State.tableImage (s : State) : Table → Nat → List Byte
  | .limit => s.limitImage
  | .group => s.groupImage
  | .roster => s.laneImage rosterBytes
  | .board => s.laneImage boardImageBytes

theorem exec_readCommand_eq (t : Table) (s : State) :
    exec t.readCommand s =
      .next (s.serve t.takesRead (fun _ o => parseRead o.body) fun a u => u.readTable a (u.tableImage t)) := by
  cases t <;> rfl

theorem takesRead_of_head {t : Table} {o : Order} (hkind : o.kind = 0x0A#8) (hhead : o.body.head? = some t.code) :
    t.takesRead o = true := by
  have hread : o.isKind .read = true := by simp [Order.isKind, hkind, OrderKind.code]
  have hnames : ∀ t', o.names t' = (t.code == t'.code) := fun t' => by
    obtain ⟨more, hbody⟩ := List.head?_eq_some_iff.1 hhead
    simp [Order.names, hbody, byteAt]
  cases t <;> simp [Table.takesRead, hread, hnames, Table.code]

theorem parseRead_of_length_ne {b : List Byte} (h : b.length ≠ 3) : parseRead b = .error .badOrder := if_pos h

/-- The checks of a READ whose body has the right length, in order (R172, R182). -/
theorem parseRead_eq (t : Table) (start count : Byte) :
    parseRead [t.code, start, count] =
      if count.toNat = 0 ∨ t.largest < count.toNat then .error .badValue
      else if start.toNat < t.first ∨ t.last < start.toNat + count.toNat - 1 then .error .bounds
      else .ok { table := t, start := start, count := count, images := [] } := by
  cases t <;> rfl

theorem exec_read_refused {t : Table} {s : State} {o : Order} {rest : List Order} {c : RefusalCode}
    (hready : OrderReady s o rest) (hkind : o.kind = 0x0A#8) (hhead : o.body.head? = some t.code)
    (hparse : parseRead o.body = .error c) :
    exec t.readCommand s = .next (s.answered o rest (.refused c)) := by
  rw [exec_readCommand_eq, serve_refused_of_ready hready (takesRead_of_head hkind hhead) hparse]

/-- A READ in its bounds answers with its images in index order and changes nothing else. -/
theorem exec_read_answered {t : Table} {s : State} {o : Order} {rest : List Order} {start count : Byte}
    (hready : OrderReady s o rest) (hkind : o.kind = 0x0A#8) (hbody : o.body = [t.code, start, count])
    (hcount : 1 ≤ count.toNat) (hlargest : count.toNat ≤ t.largest) (hfirst : t.first ≤ start.toNat)
    (hlast : start.toNat + count.toNat ≤ t.last + 1) :
    exec t.readCommand s =
      .next (s.answered o rest
        (.okRead t start count ((List.range' start.toNat count.toNat).map (s.tableImage t)).flatten)) := by
  have hparse : parseRead o.body = .ok { table := t, start := start, count := count, images := [] } := by
    rw [hbody, parseRead_eq, if_neg (by omega), if_neg (by omega)]
  have himage : (s.taken o rest).tableImage t = s.tableImage t := by cases t <;> rfl
  rw [exec_readCommand_eq, serve_ok_of_stepFrame hready (takesRead_of_head hkind (by rw [hbody]; rfl)) hparse rfl
    (StepFrame.refl _), TableArgs.readImages, himage, List.range'_eq_map_range, List.map_map]
  rfl

/-! ### The images of each table -/

theorem limitImages_eq (s : State) {start count : Nat} (h : start + count ≤ 256) :
    (List.range' start count).map s.limitImage =
      ((List.finRange 256).filter fun n => start ≤ n.val ∧ n.val < start + count).map fun n =>
        limitBytes s.limits[n] := by
  rw [← filter_range_eq_range' h, ← List.map_coe_finRange_eq_range, List.filter_map, List.map_map]
  refine List.map_congr_left fun n _ => ?_
  simp [State.limitImage]

theorem groupImages_eq (s : State) {start count : Nat} (h : start + count ≤ 32) :
    (List.range' start count).map s.groupImage =
      ((List.range 32).filter fun n => start ≤ n ∧ n < start + count).map fun n =>
        le16 (s.membersOf (.group n)) := by
  rw [filter_range_eq_range' h]
  refine List.map_congr_left fun n hn => ?_
  have hrange : (StepTarget.group n).InRange := by
    have := List.mem_range'_1.1 hn
    show n ≤ 31
    omega
  rw [← targetMembers_eq_membersOf s hrange]
  rfl

theorem laneImage_eq (s : State) (bytes : Lane → List Byte) (i : LaneId) :
    s.laneImage bytes (i.val + 1) = bytes (s.lane i) := by
  have hin : 1 ≤ i.val + 1 ∧ i.val + 1 ≤ 16 := by omega
  rw [State.laneImage, dif_pos hin]
  rfl

/-- A run of lane images: its length, and the image of each lane it covers. -/
theorem laneImages_spec {size : Nat} {bytes : Lane → List Byte} (hsize : ∀ l, (bytes l).length = size) (s : State)
    {start count : Nat} (hfirst : 1 ≤ start) (hlast : start + count ≤ 17) :
    ((List.range' start count).map (s.laneImage bytes)).flatten.length = size * count
      ∧ ∀ i : LaneId, start ≤ i.val + 1 → i.val + 1 < start + count →
        imageAt size (i.val + 1 - start) ((List.range' start count).map (s.laneImage bytes)).flatten =
          bytes (s.lane i) := by
  have hall : ∀ b ∈ (List.range' start count).map (s.laneImage bytes), b.length = size := by
    rintro b hb
    obtain ⟨n, hn, rfl⟩ := List.mem_map.1 hb
    have hrange := List.mem_range'_1.1 hn
    have hlane := laneImage_eq s bytes ⟨n - 1, by omega⟩
    rw [Nat.sub_add_cancel (by omega)] at hlane
    rw [hlane, hsize]
  refine ⟨by simp [length_flatten_of_length_eq hall], fun i hlow hhigh => ?_⟩
  rw [imageAt_flatten hall (by simp; omega), List.getElem_map, List.getElem_range', Nat.one_mul,
    Nat.add_sub_cancel' hlow, laneImage_eq]

/-- Settles O26: the refusals are those of `parseRead_eq`; the answers are `exec_read_answered`, whose images are
those of each table, for the lanes as `RosterImage` and `BoardImage` lay them out. -/
theorem readsAnswerImagesAndChangeNothing : Obligations.ReadsAnswerImagesAndChangeNothing := by
  intro s o rest hready hkind
  refine ⟨fun table htable => ?_, fun start count hcount => ⟨fun hbody hlargest hlast => ?_, fun hbody hlast => ?_,
    fun hbody hfirst hlast => ?_, fun hbody hfirst hlast => ?_⟩⟩
  · obtain ⟨t, rfl⟩ : ∃ t : Table, table = (t.readCommand, t.code, t.first, t.last, t.largest) := by
      simp only [List.mem_cons, List.not_mem_nil, or_false] at htable
      rcases htable with rfl | rfl | rfl | rfl
      · exact ⟨.limit, rfl⟩
      · exact ⟨.group, rfl⟩
      · exact ⟨.roster, rfl⟩
      · exact ⟨.board, rfl⟩
    refine ⟨fun hhead hlength => exec_read_refused hready hkind hhead (parseRead_of_length_ne hlength),
      fun start count hbody => ?_⟩
    have hrefused : ∀ c, parseRead [t.code, start, count] = .error c →
        exec t.readCommand s = .next (s.answered o rest (.refused c)) := fun c hc =>
      exec_read_refused hready hkind (by rw [hbody]; rfl) (by rw [hbody, hc])
    dsimp only
    refine ⟨fun hcount => hrefused _ ?_, fun hcount hlargest hbounds => hrefused _ ?_⟩
    · rw [parseRead_eq, if_pos (by omega)]
    · rw [parseRead_eq, if_neg (by omega), if_pos (by omega)]
  · rw [← limitImages_eq s hlast]
    exact exec_read_answered (t := .limit) hready hkind hbody hcount hlargest (Nat.zero_le _) hlast
  · have hlargest : count.toNat ≤ 32 := by omega
    rw [← groupImages_eq s hlast]
    exact exec_read_answered (t := .group) hready hkind hbody hcount hlargest (Nat.zero_le _) hlast
  · have hlargest : count.toNat ≤ 16 := by omega
    obtain ⟨hlength, himages⟩ := laneImages_spec (fun l => (rosterImage_rosterBytes l).1) s hfirst hlast
    exact ⟨_, exec_read_answered (t := .roster) hready hkind hbody hcount hlargest hfirst hlast, hlength,
      fun i hlow hhigh => (himages i hlow hhigh).symm ▸ rosterImage_rosterBytes (s.lane i)⟩
  · have hlargest : count.toNat ≤ 16 := by omega
    obtain ⟨hlength, himages⟩ := laneImages_spec (fun l => (boardImage_boardImageBytes l).1) s hfirst hlast
    exact ⟨_, exec_read_answered (t := .board) hready hkind hbody hcount hlargest hfirst hlast, hlength,
      fun i hlow hhigh => (himages i hlow hhigh).symm ▸ boardImage_boardImageBytes (s.lane i)⟩

end Sys2Proof
end

section
/-! PROOFS of the family of the verdict board and fixture lines: the three orders whose body is a lane set. Each changes
the lanes of its set by one function and answers with one value per lane of the set. -/

namespace Sys2Proof

open Sys2Proof.Machine

/-! ### The lanes of a set changed -/

theorem updLanes_lane (s : State) (set : LaneSet) (f : Lane → Lane) (i : LaneId) :
    (s.updLanes set f).lane i = if inSet set i then f (s.lane i) else s.lane i := by
  simp [State.updLanes, State.lane]

theorem updLanes_stepFrame (s : State) (set : LaneSet) (f : Lane → Lane) : StepFrame s (s.updLanes set f) := rfl

/-! ### Orders whose body is a lane set (R126, R127, R185, R202) -/

theorem checkLanes_of_length_ne (s : State) {o : Order} (h : o.body.length ≠ 2) :
    checkLanes s o = .error .badOrder := if_pos h

theorem checkLanes_of_body (s : State) {o : Order} {set : LaneSet} (h : o.body = le16 set) :
    checkLanes s o = .ok set := by
  rw [checkLanes, h, parseLaneSetOnly, if_neg (by simp [le16]), halfAt_le16]

/-- A ready order that changes the lanes of its set by `f` and answers with the values `v` as they stood: the ANSWER
follows at once, each lane of the set is changed, and nothing else. -/
theorem serve_updLanes {α : Type} {s : State} {o : Order} {rest : List Order} {mine : Order → Bool} {set : LaneSet}
    (hready : OrderReady s o rest) (hmine : mine o = true) (hbody : o.body = le16 set) (f : Lane → Lane)
    (v : Lane → α) (answer : List (Option α) → AnswerBody) :
    ∃ t, s.serve mine checkLanes (fun set u => (u.updLanes set f, answer (u.perLane set v))) = t
      ∧ t = { s.answered o rest (answer ((List.finRange 16).map fun i =>
          if inSet set i then some (v (s.lane i)) else none)) with lanes := t.lanes }
      ∧ ∀ i : LaneId, t.lane i = if inSet set i then f (s.lane i) else s.lane i := by
  have hserve := serve_ok_of_stepFrame (mine := mine)
    (act := fun set u => (u.updLanes set f, answer (u.perLane set v)))
    hready hmine (checkLanes_of_body _ hbody) rfl (updLanes_stepFrame _ set f)
  exact ⟨_, hserve, rfl, updLanes_lane s set f⟩

theorem exec_clearVerdict_eq : ∀ s : State, exec .clearVerdict s = execClearVerdict s := by intros; rfl

theorem exec_unlatch_eq : ∀ s : State, exec .unlatch s = execUnlatch s := by intros; rfl

theorem exec_clearFlags_eq : ∀ s : State, exec .clearFlags s = execClearFlags s := by intros; rfl

/-- Settles O27: each command serves the orders of its own kind; a body of another length fails `checkLanes`, and a
lane set is answered and acted on as `serve_updLanes` says. -/
theorem clearingOrdersClearExactlyTheirPart : Obligations.ClearingOrdersClearExactlyTheirPart := by
  intro s o rest set hready
  have hmine : ∀ k : OrderKind, o.kind = k.code → o.isKind k = true := fun k h => by simp [Order.isKind, h]
  simp only [exec_clearVerdict_eq, exec_unlatch_eq, exec_clearFlags_eq, execClearVerdict, execUnlatch, execClearFlags,
    Host.Outcome.next.injEq]
  refine ⟨fun hlength => ?refused, fun hkind hbody => ?clearVerdict, fun hkind hbody => ?unlatch,
    fun hkind hbody => ?clearFlags⟩
  case refused =>
    have hcheck := checkLanes_of_length_ne (s.taken o rest) hlength
    exact ⟨fun hkind => serve_refused_of_ready hready (hmine .clearVerdict hkind) hcheck,
      fun hkind => serve_refused_of_ready hready (hmine .unlatch hkind) hcheck,
      fun hkind => serve_refused_of_ready hready (hmine .clearFlags hkind) hcheck⟩
  case clearVerdict =>
    exact serve_updLanes hready (hmine .clearVerdict hkind) hbody (fun l => { l with board := l.board.emptied })
      (fun l => l.board.latch) .okClearVerdict
  case unlatch =>
    exact serve_updLanes hready (hmine .unlatch hkind) hbody
      (fun l => { l with board := { l.board with latch := false } }) (fun l => l.board.verdict) .okUnlatch
  case clearFlags =>
    exact serve_updLanes hready (hmine .clearFlags hkind) hbody (fun l => { l with flags := 0#12, dupCount := 0 })
      (fun l => (l.flags, l.dupCount)) .okClearFlags

end Sys2Proof
end

section
/-! PROOFS of the laws that every step keeps, first part: what one step can do. Every command is a run of a few kinds of
acts (`Act`), for an order between its taking and its ANSWER; `step_course` says so once, and each law is then shown
act by act. -/

namespace Sys2Proof

open Sys2Proof.Machine

/-! ### Acts that change no lane state and no step -/

/-- A lane's queues, lists and counters keep to their sizes. -/
def Machine.Lane.Sized (l : Lane) : Prop :=
  l.txQueue.length ≤ 8 ∧ l.marks.length ≤ 4 ∧ l.rxBuffer.length ≤ 2 ∧ l.outstanding.length ≤ 4
    ∧ l.dupCount ≤ 65535 ∧ l.bindCount ≤ 255 ∧ l.board.passCount ≤ 65535 ∧ l.board.marginalCount ≤ 65535
    ∧ l.board.failCount ≤ 65535

/-- A lane's engine holds what its state allows (R25, R28, R60). -/
def Machine.Lane.Fits (l : Lane) : Prop :=
  (l.state.occupied = false → l.marks = [] ∧ l.rxBuffer = [])
    ∧ (l.state.servesOwn = false → l.inFlight = none ∧ l.control = none ∧ l.txQueue = [])
    ∧ (l.state ≠ .bound → l.outstanding = [])

theorem engineLaw_iff {s : State} : EngineLaw s ↔ ∀ i, (s.lane i).Fits := Iff.rfl

/-- A lane keeps its state, identity and entries, and but for a CLEAR-VERDICT its verdict gets no better. -/
structure LaneKept (c : Option Instr) (l l' : Lane) : Prop where
  state : l'.state = l.state
  identity : l'.identity = l.identity
  outstanding : l'.outstanding = l.outstanding
  verdict : c ≠ some .clearVerdict → l.board.verdict.rank ≤ l'.board.verdict.rank

/-- A record keeps its state, its step ID and who owes. -/
structure RecordKept (n n' : StepRecord) : Prop where
  state : n'.state = n.state
  stepId : n'.stepId = n.stepId
  owes : ∀ i, n'.owes i = n.owes i

/-- No lane state, identity or step changes, the sizes are kept, and no BEACON and no SUMMARY enters its queue. -/
structure Kept (c : Option Instr) (s t : State) : Prop where
  sizes : CapacityLaw s → CapacityLaw t
  heartbeat : t.heartbeat = s.heartbeat
  beacons : beaconBits t.urgent = beaconBits s.urgent
  reserved : t.answerReserved = s.answerReserved
  startup : t.startup = true → s.startup = true
  lanes : ∀ i, LaneKept c (s.lane i) (t.lane i)
  records : ∀ r, RecordKept (s.record r) (t.record r)
  freeOrder : t.freeOrder = s.freeOrder
  closing : t.closing = s.closing
  summaries : summariesOf t.bulk = summariesOf s.bulk

/-- The laws of engines and instruments go from one state to another. -/
def Arbitrated (s t : State) : Prop := EngineLaw s → ArbiterLaw s → EngineLaw t ∧ ArbiterLaw t

theorem LaneKept.refl (c : Option Instr) (l : Lane) : LaneKept c l l := ⟨rfl, rfl, rfl, fun _ => le_rfl⟩

theorem LaneKept.trans {c : Option Instr} {l m n : Lane} (h : LaneKept c l m) (g : LaneKept c m n) :
    LaneKept c l n :=
  ⟨g.state.trans h.state, g.identity.trans h.identity, g.outstanding.trans h.outstanding,
    fun hc => (h.verdict hc).trans (g.verdict hc)⟩

theorem RecordKept.refl (n : StepRecord) : RecordKept n n := ⟨rfl, rfl, fun _ => rfl⟩

theorem RecordKept.trans {n m k : StepRecord} (h : RecordKept n m) (g : RecordKept m k) : RecordKept n k :=
  ⟨g.state.trans h.state, g.stepId.trans h.stepId, fun i => (g.owes i).trans (h.owes i)⟩

theorem Kept.refl (c : Option Instr) (s : State) : Kept c s s :=
  ⟨id, rfl, rfl, rfl, id, fun _ => LaneKept.refl c _, fun _ => RecordKept.refl _, rfl, rfl, rfl⟩

theorem Kept.trans {c : Option Instr} {s t u : State} (h : Kept c s t) (g : Kept c t u) : Kept c s u :=
  ⟨g.sizes ∘ h.sizes, g.heartbeat.trans h.heartbeat, g.beacons.trans h.beacons, g.reserved.trans h.reserved,
    h.startup ∘ g.startup, fun i => (h.lanes i).trans (g.lanes i), fun r => (h.records r).trans (g.records r),
    g.freeOrder.trans h.freeOrder, g.closing.trans h.closing, g.summaries.trans h.summaries⟩

theorem Arbitrated.refl (s : State) : Arbitrated s s := fun h g => ⟨h, g⟩

theorem Arbitrated.trans {s t u : State} (h : Arbitrated s t) (g : Arbitrated t u) : Arbitrated s u :=
  fun he ha => g (h he ha).1 (h he ha).2

/-! ### The acts -/

/-- A lane that is not BOUND takes another state or other items, under the identity it holds. -/
structure LaneMoved (E : Prop) (s : State) (i : LaneId) (l' : Lane) : Prop where
  unbound : (s.lane i).state ≠ .bound
  outstanding : l'.outstanding = (s.lane i).outstanding
  identity : l'.identity = (s.lane i).identity
  verdict : (s.lane i).board.verdict.rank ≤ l'.board.verdict.rank
  sizes : (s.lane i).Sized → l'.Sized
  fits : E → (s.lane i).Fits → l'.Fits
  unique : l'.state = .bound → ∀ id, l'.identity = some id → s.boundElsewhere i id = false
  started : E → l'.state = .off ∨ s.startup = false

/-- What the loss of a lane leaves of it: `g` changes the lane's items before its loss at the arbiter, which may change
its control slot, and `h` after it. -/
structure LaneLost (E : Prop) (s : State) (i : LaneId) (g h : Lane → Lane) : Prop where
  entries : ∀ l, (g l).outstanding = l.outstanding
  state : ∀ x, (h { g { s.lane i with outstanding := [] } with control := x }).state = .bound →
    (s.lane i).state = .bound
  identity : ∀ x, ((h { g { s.lane i with outstanding := [] } with control := x }).identity = (s.lane i).identity
      ∧ (s.lane i).board.verdict.rank ≤
        (h { g { s.lane i with outstanding := [] } with control := x }).board.verdict.rank)
    ∨ (h { g { s.lane i with outstanding := [] } with control := x }).identity = none
  outstanding : ∀ x, (h { g { s.lane i with outstanding := [] } with control := x }).outstanding = []
  sizes : ∀ x, (s.lane i).Sized → (h { g { s.lane i with outstanding := [] } with control := x }).Sized
  fits : E → (s.lane i).Fits → (h (g { s.lane i with outstanding := [] })).Fits
  started : E → s.startup = false

/-- One act of the part. `c` is the command of which it is a part, and `E` what the laws gave before it. -/
inductive Act (c : Option Instr) (E : Prop) : State → State → Prop
  | kept {s t : State} : Kept c s t → (E → Arbitrated s t) → Act c E s t
  | moved {s : State} {i : LaneId} {f : Lane → Lane} : LaneMoved E s i (f (s.lane i)) → Act c E s (s.updLane i f)
  | lost {s : State} {i : LaneId} {o : MemberOutcome} {g h : Lane → Lane} : o.owing = false → LaneLost E s i g h →
      Act c E s ((((s.loseEntries i o).updLane i g).loseInstruments i).updLane i h)
  | entryLost {s : State} {i : LaneId} {o : MemberOutcome} {e : OutEntry} : o.owing = false →
      e ∈ (s.lane i).outstanding → Act c E s (State.loseEntry i o s e)
  | ended {s : State} {r : RecordId} {o : MemberOutcome} {cause : CloseCause} : (s.record r).state = .opened →
      o.owing = false → Act c E s (s.endStep r o cause)
  | summary {s : State} : Act c E s s.enterSummary

/-- A run of acts. -/
def Acts (c : Option Instr) (E : Prop) : State → State → Prop := Relation.ReflTransGen (Act c E)

theorem Acts.refl (c : Option Instr) (E : Prop) (s : State) : Acts c E s s := Relation.ReflTransGen.refl

theorem Acts.trans {c : Option Instr} {E : Prop} {s t u : State} (h : Acts c E s t) (g : Acts c E t u) :
    Acts c E s u := Relation.ReflTransGen.trans h g

theorem Act.acts {c : Option Instr} {E : Prop} {s t : State} (h : Act c E s t) :
    Acts c E s t := Relation.ReflTransGen.single h

/-- A run of acts, and at its end perhaps the uniqueness check of an identity on a lane that is not BOUND and holds no
other (R35). -/
inductive Deed (c : Option Instr) (E : Prop) (s : State) : State → Prop
  | acts {t : State} : Acts c E s t → Deed c E s t
  | binds {u : State} {i : LaneId} {id : List Byte} : Acts c E s u → (u.lane i).state.occupied = true →
      (u.lane i).state ≠ .bound → ((u.lane i).identity = none ∨ (u.lane i).identity = some id) →
      ((s.lane i).identity = some id → (u.lane i).identity = some id) → (E → u.startup = false) →
      Deed c E s (u.bindOrHold i id)

/-- A beacon enters before an ANSWER, or does not (R194). -/
def BeaconMayEnter (u v : State) : Prop :=
  ∃ n, v = { u with choices := n } ∨ v = { u with choices := n }.enterBeacon

/-- What one step can do, for the command `c` it takes, if it takes one. -/
inductive Course (c : Option Instr) (E : Prop) (s : State) : State → Prop
  | deed {t : State} : Deed c E s t → (c = some .step → t.ingress = s.ingress) → Course c E s t
  | answered {o : Order} {rest : List Order} {u v : State} {b : AnswerBody} : s.ingress = o :: rest →
      urgentTaken s < 32 → Deed c E (s.taken o rest) u → BeaconMayEnter u v →
      (c = some .step → ∃ code, b = .refused code) → Course c E s (v.finishOrder o b)
  | stepTaken {o : Order} {rest : List Order} {a : StepArgs} {r : RecordId} {free : List RecordId} {v : State}
      {deadline : Nat} {members pending skipped overrun : LaneSet} : c = some .step → s.ingress = o :: rest →
      urgentTaken s < 32 → s.startup = false → a.stepId = halfAt o.body 0 → a.stepId ≠ 0#16 →
      s.idInUse a.stepId = false → s.freeOrder = r :: free →
      BeaconMayEnter (((s.taken o rest).takeStepInto r a).closingCheck r) v →
      Course c E s (v.finishOrder o (.okStep deadline members pending skipped overrun))
  | beacon : Course c E s s.enterBeacon
  | report : Course c E s s.startReport
  | poweredOn {straps : BitVec 4} {seats : LaneSet} : c = some (.powerOn straps seats) →
      Course c E s (s.poweredOn straps seats)
  | reset {straps : BitVec 4} {u : State} : c = some (.reset straps) → Course c E s (u.resetByOrder straps)

end Sys2Proof
end

section
/-! PROOFS of the laws that every step keeps, second part: the shared operations as acts that change no lane state
and no step, and what the arbiter's operations keep of its own law. -/

namespace Sys2Proof

open Sys2Proof.Machine

/-! ### Changes beside every law -/

/-- Only fields of which no law speaks changed. -/
def Besides (s t : State) : Prop :=
  t = { s with
    pointer := t.pointer, groups := t.groups, limits := t.limits, station := t.station
    hostAddress := t.hostAddress, linkUp := t.linkUp, bulkHold := t.bulkHold, uplinkLine := t.uplinkLine
    currentOrder := t.currentOrder, holding := t.holding, noticeMask := t.noticeMask
    selection := t.selection, interval := t.interval, intervalTimer := t.intervalTimer
    spacingTimer := t.spacingTimer, earlyRequest := t.earlyRequest, beaconDue := t.beaconDue
    choices := t.choices, pending := t.pending }

theorem Machine.BeaconFrame.besides {s t : State} (h : BeaconFrame s t) : Besides s t := by
  rw [Besides, h]

theorem Besides.kept {s t : State} (h : Besides s t) (c : Option Instr) : Kept c s t := by
  rw [h]
  exact ⟨fun ⟨hl, hi, hu, hb, hd⟩ => ⟨hl, hi, hu, hb, hd⟩, rfl, rfl, rfl, id, fun _ => LaneKept.refl c _,
    fun _ => RecordKept.refl _, rfl, rfl, rfl⟩

theorem Besides.arbitrated {s t : State} (h : Besides s t) : Arbitrated s t := by
  rw [h]
  exact fun he ha => ⟨he, ha⟩

theorem Besides.act {s t : State} (h : Besides s t) (c : Option Instr) (E : Prop) : Act c E s t :=
  .kept (h.kept c) fun _ => h.arbitrated

theorem recordEvent_besides (s : State) (i : LaneId) (k : EventKind) : Besides s (s.recordEvent i k) :=
  (recordEvent_frame s i k).besides

/-! ### One lane changed -/

theorem CapacityLaw.updLane {s : State} {i : LaneId} {f : Lane → Lane} (h : CapacityLaw s)
    (hf : (s.lane i).Sized → (f (s.lane i)).Sized) : CapacityLaw (s.updLane i f) := by
  refine ⟨fun j => ?_, h.ingress, h.urgent, h.bulk, h.drops⟩
  rw [State.lane_updLane]
  split
  · exact hf (h.lanes i)
  · exact h.lanes j

theorem updLane_kept {c : Option Instr} {s : State} {i : LaneId} {f : Lane → Lane}
    (hkept : LaneKept c (s.lane i) (f (s.lane i))) (hsized : (s.lane i).Sized → (f (s.lane i)).Sized) :
    Kept c s (s.updLane i f) := by
  refine ⟨fun h => h.updLane hsized, rfl, rfl, rfl, id, fun j => ?_, fun _ => RecordKept.refl _, rfl, rfl, rfl⟩
  rw [State.lane_updLane]
  split
  · subst_vars; exact hkept
  · exact LaneKept.refl c _

/-! ### The law of one instrument (R141) -/

/-- What R141 asks of one instrument record, the lanes of `bound` being those in state BOUND. -/
structure Machine.Instrument.Fair (n : Instrument) (bound : LaneId → Prop) : Prop where
  holder : ∀ i, n.holder = some i → bound i ∧ inSet n.waiting i = false
  waiting : ∀ i, inSet n.waiting i = true → bound i ∧ n.holder.isSome = true
  revoked : ∀ i, inSet n.revoked i = true → bound i
  enabled : n.enabled = false → n.holder = none
  timer : n.holder = none → n.holdTimer = none

/-- The lanes in state BOUND. -/
def Machine.State.bound (s : State) (i : LaneId) : Prop := (s.lane i).state = .bound

theorem arbiterLaw_iff {s : State} : ArbiterLaw s ↔ ∀ k, (s.instrument k).Fair s.bound :=
  forall_congr' fun _ => ⟨fun ⟨h1, h2, h3, h4, h5⟩ => ⟨h1, h2, h3, h4, h5⟩,
    fun ⟨h1, h2, h3, h4, h5⟩ => ⟨h1, h2, h3, h4, h5⟩⟩

theorem Machine.Instrument.Fair.mono {n : Instrument} {b b' : LaneId → Prop} (h : n.Fair b)
    (hb : ∀ i, b i → b' i) : n.Fair b' :=
  ⟨fun i hi => ⟨hb i (h.holder i hi).1, (h.holder i hi).2⟩, fun i hi => ⟨hb i (h.waiting i hi).1, (h.waiting i hi).2⟩,
    fun i hi => hb i (h.revoked i hi), h.enabled, h.timer⟩

/-- With no lane entering or leaving BOUND, the laws of engines and instruments are those of each lane and each
instrument. -/
theorem Arbitrated.of_each {s t : State} (hstate : ∀ i, (t.lane i).state = (s.lane i).state)
    (hlanes : EngineLaw s → ArbiterLaw s → ∀ i, (s.lane i).Fits → (t.lane i).Fits)
    (hinstr : ∀ k, (s.instrument k).Fair s.bound → (t.instrument k).Fair s.bound) : Arbitrated s t := by
  intro he ha
  refine ⟨fun i => hlanes he ha i (he i), arbiterLaw_iff.2 fun k => ?_⟩
  refine (hinstr k (arbiterLaw_iff.1 ha k)).mono fun i hi => ?_
  rw [State.bound, hstate]
  exact hi

/-- One lane that keeps its state and fits it. -/
theorem updLane_arbitrated {s : State} {i : LaneId} {f : Lane → Lane}
    (hstate : (f (s.lane i)).state = (s.lane i).state) (hfits : (s.lane i).Fits → (f (s.lane i)).Fits) :
    Arbitrated s (s.updLane i f) := by
  refine Arbitrated.of_each (fun j => ?_) (fun _ _ j hj => ?_) fun _ h => h <;> rw [State.lane_updLane] <;> split
  · subst_vars; exact hstate
  · rfl
  · subst_vars; exact hfits hj
  · exact hj

theorem updLane_act {c : Option Instr} {E : Prop} {s : State} {i : LaneId} {f : Lane → Lane}
    (hkept : LaneKept c (s.lane i) (f (s.lane i))) (hsized : (s.lane i).Sized → (f (s.lane i)).Sized)
    (hfits : E → (s.lane i).Fits → (f (s.lane i)).Fits) : Act c E s (s.updLane i f) :=
  .kept (updLane_kept hkept hsized) fun hE => updLane_arbitrated hkept.state (hfits hE)

/-! ### Reports and the arbiter's operations -/

theorem beaconBits_append (a b : List UrgentReport) : beaconBits (a ++ b) = beaconBits a ++ beaconBits b :=
  List.filterMap_append

theorem summariesOf_append (a b : List BulkReport) : summariesOf (a ++ b) = summariesOf a ++ summariesOf b :=
  List.filterMap_append

theorem beaconBits_take {l : List UrgentReport} (h : beaconBits l = []) (n : Nat) : beaconBits (l.take n) = [] := by
  rw [beaconBits, List.filterMap_eq_nil_iff] at h ⊢
  exact fun r hr => h r (List.mem_of_mem_take hr)

/-- What the arbiter does beside its instrument records: control slots and flags may change, and reports that are no
BEACON are offered. -/
structure Arbitration (s t : State) : Prop where
  frame : ArbiterFrame s t
  lanes : ∀ j, ∃ x w, t.lane j = { s.lane j with control := x, flags := w }
  reports : ∃ l, beaconBits l = [] ∧ UrgentOffered s t l

theorem Arbitration.refl (s : State) : Arbitration s s := ⟨rfl, fun _ => ⟨_, _, rfl⟩, [], rfl, .refl s⟩

theorem Arbitration.trans {s t u : State} (h : Arbitration s t) (g : Arbitration t u) : Arbitration s u := by
  obtain ⟨l, hl, hreports⟩ := h.reports
  obtain ⟨l', hl', hreports'⟩ := g.reports
  refine ⟨h.frame.trans g.frame, fun j => ?_, l ++ l', by rw [beaconBits_append, hl, hl']; rfl,
    hreports.trans hreports' h.frame.answerReserved_eq⟩
  obtain ⟨x, w, hj⟩ := h.lanes j
  obtain ⟨x', w', hj'⟩ := g.lanes j
  exact ⟨x', w', by rw [hj', hj]⟩

theorem UrgentOffered.capacity {s t : State} {l : List UrgentReport} (h : UrgentOffered s t l)
    (hreserved : t.answerReserved = s.answerReserved) (hs : urgentTaken s ≤ 32 ∧ s.urgentDrops ≤ 65535) :
    urgentTaken t ≤ 32 ∧ t.urgentDrops ≤ 65535 := by
  obtain ⟨hqueue, hdrops⟩ := h
  unfold urgentTaken at *
  rw [hqueue, hdrops, hreserved, List.length_append, List.length_take]
  omega

theorem Arbitration.kept {s t : State} (h : Arbitration s t) (c : Option Instr) : Kept c s t := by
  obtain ⟨l, hl, hreports⟩ := h.reports
  have hframe := h.frame
  refine ⟨fun hs => ?_, by rw [hframe], ?_, by rw [hframe], by rw [hframe]; exact id, fun j => ?_, fun r => ?_,
    by rw [hframe], by rw [hframe], by rw [hframe]⟩
  · obtain ⟨hfcs, hingress, hurgent, hbulk⟩ := hs.drops
    obtain ⟨htaken, hdrops⟩ := hreports.capacity hframe.answerReserved_eq ⟨hs.urgent, hurgent⟩
    refine ⟨fun j => ?_, by rw [hframe]; exact hs.ingress, htaken, by rw [hframe]; exact hs.bulk,
      by rw [hframe]; exact ⟨hfcs, hingress, hdrops, hbulk⟩⟩
    obtain ⟨x, w, hj⟩ := h.lanes j
    rw [hj]
    exact hs.lanes j
  · rw [hreports.1, beaconBits_append, beaconBits_take hl, List.append_nil]
  · obtain ⟨x, w, hj⟩ := h.lanes j
    rw [hj]
    exact ⟨rfl, rfl, rfl, fun _ => le_rfl⟩
  · rw [State.record, hframe]
    exact RecordKept.refl _

theorem updInstrument_arbitration (s : State) (k : InstrumentId) (f : Instrument → Instrument) :
    Arbitration s (s.updInstrument k f) := ⟨rfl, fun _ => ⟨_, _, rfl⟩, [], rfl, .refl s⟩

theorem updControl_arbitration {s : State} {i : LaneId} {f : Lane → Lane}
    (hf : ∀ l, ∃ x w, f l = { l with control := x, flags := w }) : Arbitration s (s.updLane i f) := by
  refine ⟨rfl, fun j => ?_, [], rfl, .refl s⟩
  rw [State.lane_updLane]
  split
  · subst_vars; exact hf _
  · exact ⟨_, _, rfl⟩

theorem placeControl_arbitration (s : State) (i : LaneId) (c : ControlKind) (k : InstrumentId) :
    Arbitration s (s.placeControl i c k) := updControl_arbitration fun _ => ⟨_, _, rfl⟩

theorem setFlag_arbitration (s : State) (i : LaneId) (g : LaneFlag) : Arbitration s (s.setFlag i g) :=
  updControl_arbitration fun _ => ⟨_, _, rfl⟩

theorem offerUrgent_arbitration (s : State) {r : UrgentReport} (h : beaconBits [r] = []) :
    Arbitration s (s.offerUrgent r) :=
  ⟨offerUrgent_frame s r, fun j => ⟨_, _, offerUrgent_lane s r j⟩, [r], h, offerUrgent_offered s r⟩

theorem reportInstrument_arbitration (s : State) (k : InstrumentId) (e : InstrumentEvent) (i : LaneId) (n : Nat) :
    Arbitration s (s.reportInstrument k e i n) :=
  ⟨reportInstrument_frame s k e i n, fun j => ⟨_, _, reportInstrument_lane s k e i n j⟩, _, rfl,
    reportInstrument_offered s k e i n⟩

theorem grant_arbitration (s : State) (k : InstrumentId) (i : LaneId) : Arbitration s (s.grant k i) :=
  (updInstrument_arbitration s k _).trans
    ((placeControl_arbitration _ i .grant k).trans (reportInstrument_arbitration _ k .granted i _))

theorem chooseNext_arbitration (s : State) (k : InstrumentId) : Arbitration s (s.chooseNext k) := by
  rcases chooseNext_cases s k with ⟨i, -, h⟩ | ⟨-, h⟩ <;> rw [h]
  · exact grant_arbitration s k i
  · exact .refl s

theorem loseInstrument_arbitration (i : LaneId) (s : State) (k : InstrumentId) :
    Arbitration s (State.loseInstrument i s k) := by
  unfold State.loseInstrument
  dsimp only
  refine Arbitration.trans ?_ (updInstrument_arbitration _ k _)
  split
  · exact (updInstrument_arbitration s k _).trans
      ((reportInstrument_arbitration _ k .dropped i 0).trans (chooseNext_arbitration _ k))
  · exact .refl s

theorem loseInstruments_arbitration (s : State) (i : LaneId) : Arbitration s (s.loseInstruments i) :=
  foldl_keeps Arbitration.refl Arbitration.trans (loseInstrument_arbitration i) _ s

theorem denyWaiters_arbitration (s : State) (k : InstrumentId) : Arbitration s (s.denyWaiters k) :=
  foldl_keeps Arbitration.refl Arbitration.trans (fun s i => by
    split
    · exact (updInstrument_arbitration s k _).trans (placeControl_arbitration _ i .deny k)
    · exact .refl s) _ s

theorem disableInstrument_arbitration (s : State) (k : InstrumentId) : Arbitration s (s.disableInstrument k) := by
  unfold State.disableInstrument
  dsimp only
  refine Arbitration.trans (Arbitration.trans ?_ (denyWaiters_arbitration _ k)) (updInstrument_arbitration _ k _)
  split
  · exact .refl s
  · exact (updInstrument_arbitration s k _).trans
      ((placeControl_arbitration _ _ .revoke k).trans (reportInstrument_arbitration _ k .revoked _ 0))

/-! ### The arbiter keeps its law (R141) -/

theorem inSet_removeLane (w : LaneSet) (i j : LaneId) :
    inSet (removeLane w i) j = (inSet w j && !decide (j = i)) := by
  simp [inSet, removeLane, Fin.ext_iff, eq_comm]

theorem inSet_of_inSet_removeLane {w : LaneSet} {i j : LaneId} (h : inSet (removeLane w i) j = true) :
    inSet w j = true ∧ j ≠ i := by simpa [inSet_removeLane] using h

theorem firstAfter_eq_none_iff {last : LaneId} {w : LaneSet} :
    firstAfter last w = none ↔ ∀ i, inSet w i = false := by
  rw [firstAfter, List.find?_eq_none]
  constructor
  · intro h i
    have hback : last + 1 + (i - 1 - last) = i := by abel
    have hi := h i (List.mem_map.2 ⟨i - 1 - last, List.mem_finRange _, hback⟩)
    simpa using hi
  · exact fun h i _ => by simp [h i]

theorem inSet_of_nextOf {n : Instrument} {i : LaneId} (h : nextOf n = some i) : inSet n.waiting i = true :=
  List.find?_some (p := fun i => inSet n.waiting i) h

section

variable {n : Instrument} {b : LaneId → Prop}

theorem Machine.Instrument.Fair.granted (h : n.Fair b) {i : LaneId} (hi : b i) (henabled : n.enabled = true) :
    (n.granted i).Fair b := by
  refine ⟨fun j hj => ?_, fun j hj => ?_, fun j hj => ?_, fun he => ?_, fun hn => by cases hn⟩
  · obtain rfl : i = j := by simpa [Instrument.granted] using hj
    exact ⟨hi, by simp [Instrument.granted, inSet_removeLane]⟩
  · exact ⟨(h.waiting j (inSet_of_inSet_removeLane hj).1).1, rfl⟩
  · exact h.revoked j (inSet_of_inSet_removeLane hj).1
  · exact absurd (henabled.symm.trans he) (by decide)

/-- A hold that has ended passes on, whatever lanes join the revoked set (R146). -/
theorem Machine.Instrument.Fair.passedOn (h : n.Fair b) {m : Instrument} (hholder : n.holder.isSome = true)
    (hm : m = { n.freed with revoked := m.revoked }) (hrevoked : ∀ j, inSet m.revoked j = true → b j) :
    ((nextOf m).elim m m.granted).Fair b := by
  have henabled : n.enabled = true := by
    cases he : n.enabled with
    | true => rfl
    | false => rw [h.enabled he] at hholder; exact hholder
  have hwaiting : m.waiting = n.waiting := by rw [hm]; rfl
  cases hnext : nextOf m with
  | none =>
    have hempty := firstAfter_eq_none_iff.1 hnext
    refine ⟨fun j hj => ?_, fun j hj => ?_, hrevoked, fun _ => ?_, fun _ => ?_⟩
    · rw [Option.elim_none, hm] at hj; cases hj
    · rw [Option.elim_none, hempty] at hj; exact absurd hj Bool.false_ne_true
    · rw [Option.elim_none, hm]; rfl
    · rw [Option.elim_none, hm]; rfl
  | some i =>
    have hi := inSet_of_nextOf hnext
    rw [hwaiting] at hi
    refine ⟨fun j hj => ?_, fun j hj => ?_, fun j hj => ?_, fun he => ?_, fun hn => by cases hn⟩
    · obtain rfl : i = j := by simpa [Instrument.granted] using hj
      exact ⟨(h.waiting i hi).1, by simp [Instrument.granted, inSet_removeLane]⟩
    · have hj' := (inSet_of_inSet_removeLane hj).1
      rw [hwaiting] at hj'
      exact ⟨(h.waiting j hj').1, rfl⟩
    · exact hrevoked j (inSet_of_inSet_removeLane hj).1
    · rw [Option.elim_some, hm] at he
      exact absurd (henabled.symm.trans he) (by decide)

/-- A lane that is lost to an instrument leaves it fair, BOUND or not (R150). -/
theorem Machine.Instrument.Fair.afterLoss (h : n.Fair b) {b' : LaneId → Prop} {i : LaneId}
    (hb : ∀ j, j ≠ i → b j → b' j) : (afterLoss n i).Fair b' := by
  unfold Sys2Proof.afterLoss
  have hrevoked : ∀ j, inSet (removeLane n.revoked i) j = true → b' j := fun j hj => by
    obtain ⟨hj', hne⟩ := inSet_of_inSet_removeLane hj
    exact hb j hne (h.revoked j hj')
  by_cases hholder : n.holder = some i
  · rw [if_pos hholder]
    have hnot := (h.holder i hholder).2
    have hwaits : ∀ j, inSet n.waiting j = true → j ≠ i := fun j hj hji => by
      rw [hji, hnot] at hj; exact Bool.false_ne_true hj
    have henabled : n.enabled = true := by
      cases he : n.enabled with
      | true => rfl
      | false => rw [h.enabled he] at hholder; cases hholder
    cases hnext : nextOf n with
    | none =>
      have hempty := firstAfter_eq_none_iff.1 hnext
      exact ⟨fun j hj => (by cases hj), fun j hj => absurd ((hempty j).symm.trans hj) Bool.false_ne_true,
        hrevoked, fun _ => rfl, fun _ => rfl⟩
    | some i' =>
      have hi := inSet_of_nextOf hnext
      refine ⟨fun j hj => ?_, fun j hj => ?_, fun j hj => ?_, fun he => ?_, fun hn => by cases hn⟩
      · obtain rfl : i' = j := by simpa [grantedTo] using hj
        exact ⟨hb i' (hwaits i' hi) (h.waiting i' hi).1, by simp [grantedTo, inSet_removeLane]⟩
      · have hj' := (inSet_of_inSet_removeLane hj).1
        exact ⟨hb j (hwaits j hj') (h.waiting j hj').1, rfl⟩
      · obtain ⟨hj', hne⟩ := inSet_of_inSet_removeLane hj
        exact hb j hne (h.revoked j (inSet_of_inSet_removeLane hj').1)
      · exact absurd (henabled.symm.trans he) (by decide)
  · rw [if_neg hholder]
    refine ⟨fun j hj => ?_, fun j hj => ?_, hrevoked, h.enabled, h.timer⟩
    · have hji : j ≠ i := fun e => hholder (e ▸ hj)
      refine ⟨hb j hji (h.holder j hj).1, ?_⟩
      simp [inSet_removeLane, (h.holder j hj).2]
    · obtain ⟨hj', hne⟩ := inSet_of_inSet_removeLane hj
      exact ⟨hb j hne (h.waiting j hj').1, (h.waiting j hj').2⟩

end

/-- A control slot or the flags of a lane that serves own frames may change. -/
theorem Machine.Lane.Fits.control {l : Lane} (h : l.Fits) (hserves : l.state.servesOwn = true)
    (x : Option ControlFrame) (w : BitVec 12) : Lane.Fits { l with control := x, flags := w } :=
  ⟨h.1, fun hs => absurd (hserves.symm.trans hs) (by decide), h.2.2⟩

/-- The arbiter's law after one of its operations: control slots change on BOUND lanes only. -/
theorem Arbitration.arbitrated {s t : State} (h : Arbitration s t)
    (hcontrol : EngineLaw s → ArbiterLaw s → ∀ j, (t.lane j).control = (s.lane j).control
      ∨ (s.lane j).state.servesOwn = true)
    (hinstr : ∀ k, (s.instrument k).Fair s.bound → (t.instrument k).Fair s.bound) : Arbitrated s t := by
  refine Arbitrated.of_each (fun j => ?_) (fun he ha j hj => ?_) hinstr
  · obtain ⟨x, w, hj⟩ := h.lanes j
    rw [hj]
  · obtain ⟨x, w, hl⟩ := h.lanes j
    rw [hl]
    rcases hcontrol he ha j with hsame | hserves
    · rw [hl] at hsame
      have hsame' : x = (s.lane j).control := hsame
      rw [hsame']
      exact hj
    · exact hj.control hserves x w

end Sys2Proof
end

section
/-! PROOFS of the laws that every step keeps, third part: what the roster and the lane engines do, as runs of acts. -/

namespace Sys2Proof

open Sys2Proof.Machine

variable {c : Option Instr} {E : Prop}

/-! ### The roster's operations -/

theorem updLane_besides_act {s : State} {i : LaneId} {f : Lane → Lane} {t : State}
    (h : Act c E s (s.updLane i f)) (ht : Besides (s.updLane i f) t) : Acts c E s t :=
  h.acts.trans (ht.act c E).acts

/-- The engine of a lane that is not BOUND fits any state in which it may hold what it holds. -/
theorem Machine.Lane.Fits.of_occupied {l' : Lane} (hocc : l'.state.occupied = true)
    (hown : l'.state.servesOwn = false → l'.inFlight = none ∧ l'.control = none ∧ l'.txQueue = [])
    (hout : l'.outstanding = []) : l'.Fits :=
  ⟨fun h => absurd (hocc.symm.trans h) (by decide), hown, fun _ => hout⟩

theorem seatLane_acts {s : State} {i : LaneId} (hunbound : (s.lane i).state ≠ .bound)
    (hstart : E → s.startup = false) : Acts c E s (s.seatLane i) := by
  rw [seatLane_eq]
  refine updLane_besides_act (.moved ⟨hunbound, rfl, rfl, le_rfl, fun h => ?_, fun _ h => ?_, fun h => (by cases h),
    fun hE => .inr (hstart hE)⟩) (recordEvent_besides _ i .seated)
  · obtain ⟨-, -, -, hout, hrest⟩ := h
    exact ⟨Nat.zero_le _, Nat.zero_le _, Nat.zero_le _, hout, hrest⟩
  · exact .of_occupied rfl (fun h => (by cases h)) (h.2.2 hunbound)

theorem leaveOff_acts {s : State} {i : LaneId} (hoff : (s.lane i).state = .off) (hstart : E → s.startup = false) :
    Acts c E s (s.leaveOff i) := by
  have hunbound : (s.lane i).state ≠ .bound := by rw [hoff]; decide
  unfold State.leaveOff
  split
  · exact seatLane_acts hunbound hstart
  · refine Act.acts (.moved ⟨hunbound, rfl, rfl, le_rfl, id, fun _ h => ?_, fun h => (by cases h),
      fun hE => .inr (hstart hE)⟩)
    exact ⟨fun _ => h.1 (by rw [hoff]; rfl), fun _ => h.2.1 (by rw [hoff]; rfl), fun _ => h.2.2 hunbound⟩

theorem abandon_eq (l : Lane) : l.abandon = { l with inFlight := none, txBusy := l.abandon.txBusy } := by
  unfold Lane.abandon
  split
  · rename_i h
    rw [← h]
  · rfl

theorem departEngine_eq (l : Lane) : l.departEngine =
    { l with
      mode := .app, txSeq := 0#8, lastTaken := none, hunt := .hunt, gapTimer := none, inFlight := none
      control := none, txQueue := [], rxBuffer := [], marks := [], txBusy := l.abandon.txBusy } := by
  unfold Lane.departEngine
  rw [abandon_eq]
  rfl

theorem depart_acts {s : State} {i : LaneId} {cause : DepartCause} (hstart : E → s.startup = false) :
    Acts c E s (s.depart i cause) := by
  let u := s.offerUrgent ((s.lane i).departureReport i cause)
  have hu : Arbitration s u := offerUrgent_arbitration s rfl
  have hlane : ∀ j, u.lane j = s.lane j := offerUrgent_lane s _
  have harb : E → Arbitrated s u := fun _ => hu.arbitrated (fun _ _ j => .inl (by rw [hlane])) fun k h => by
    rw [offerUrgent_instrument]; exact h
  have hlost : LaneLost E u i Lane.departEngine fun l => l.departed cause := by
    refine ⟨fun l => by rw [departEngine_eq], fun x h => ?_, fun x => .inr rfl, fun x => by rw [departEngine_eq]; rfl,
      fun x hs => ?_, fun _ h => ?_, fun hE => by rw [hu.frame]; exact hstart hE⟩
    · cases cause <;> cases h
    · rw [departEngine_eq]
      exact ⟨Nat.zero_le _, Nat.zero_le _, Nat.zero_le _, Nat.zero_le _, hs.2.2.2.2.1, Nat.zero_le _, Nat.zero_le _,
        Nat.zero_le _, Nat.zero_le _⟩
    · rw [departEngine_eq]
      exact ⟨fun _ => ⟨rfl, rfl⟩, fun _ => ⟨rfl, rfl, rfl⟩, fun _ => rfl⟩
  exact (Act.kept (hu.kept c) harb).acts.trans ((Act.lost rfl hlost).acts.trans
    ((recordEvent_besides _ i .departed).act c E).acts)

theorem satIncr_le {most n : Nat} (h : n ≤ most) : satIncr most n ≤ most := by
  unfold satIncr
  split <;> omega

theorem rebind_acts {s : State} {i : LaneId} (hbound : (s.lane i).state = .bound) (hstart : E → s.startup = false) :
    Acts c E s (s.rebind i) := by
  rw [rebind_eq]
  refine (Act.lost (o := .lost) (g := rebindEngine (s.lane i).outstanding) rfl ?_).acts.trans
    ((recordEvent_besides _ i .rebound).act c E).acts
  refine ⟨fun l => by rw [rebindEngine_eq], fun x h => hbound, fun x => .inl ?_, fun x => by rw [rebindEngine_eq],
    fun x hs => ?_, fun _ h => ?_, hstart⟩ <;> rw [rebindEngine_eq]
  · exact ⟨rfl, le_rfl⟩
  · obtain ⟨htx, hmarks, hrx, hout, hdup, hbind, hboard⟩ := hs
    exact ⟨(List.length_filter_le _ _).trans htx, hmarks, hrx, Nat.zero_le _, hdup, satIncr_le hbind, hboard⟩
  · exact .of_occupied (by rw [hbound]; rfl) (fun h => by rw [hbound] at h; cases h) rfl

/-! ### Restarts -/

theorem loseWork_eq (s : State) (i : LaneId) : s.loseWork i =
    (s.loseEntries i .lost).updLane i fun l => l.removeSteps ((s.lane i).outstanding.map OutEntry.stepId) := rfl

/-- A restart under a phone keeps identity and record, and leaves the lane SEATED with no entries (R40, R41). -/
theorem restarted_lost {s : State} {i : LaneId} {g : Lane → Lane} (hbound : (s.lane i).state = .bound)
    (hentries : ∀ l, (g l).outstanding = l.outstanding)
    (hg : ∀ l, (g l).identity = l.identity ∧ (g l).board = l.board ∧ (l.Sized → (g l).Sized))
    (hstart : E → s.startup = false) : LaneLost E s i g Lane.restarted := by
  let l : Lane := { s.lane i with outstanding := [] }
  obtain ⟨hid, hboard, hsized⟩ := hg l
  have hout : (g l).outstanding = [] := hentries l
  refine ⟨hentries, fun x h => hbound, fun x => .inl ⟨hid, ?_⟩, fun x => hout, fun x hs => ?_, fun _ _ => ?_, hstart⟩
  · show (s.lane i).board.verdict.rank ≤ (g l).board.verdict.rank
    rw [hboard]
  · obtain ⟨htx, hmarks, hrx, -, hrest⟩ := hs
    exact hsized ⟨htx, hmarks, hrx, Nat.zero_le _, hrest⟩
  · exact .of_occupied rfl (fun h => by cases h) hout

theorem restarted_moved {s : State} {i : LaneId} {g : Lane → Lane} (hunbound : (s.lane i).state ≠ .bound)
    (hg : ∀ l, (g l).outstanding = l.outstanding ∧ (g l).identity = l.identity ∧ (g l).board = l.board
      ∧ (l.Sized → (g l).Sized))
    (hstart : E → s.startup = false) : LaneMoved E s i (g (s.lane i)).restarted := by
  obtain ⟨hout, hid, hboard, hsized⟩ := hg (s.lane i)
  refine ⟨hunbound, hout, hid, ?_, hsized, fun _ h => ?_, fun h => (by cases h), fun hE => .inr (hstart hE)⟩
  · show (s.lane i).board.verdict.rank ≤ (g (s.lane i)).board.verdict.rank
    rw [hboard]
  · exact .of_occupied rfl (fun h => (by cases h)) (hout.trans (h.2.2 hunbound))

theorem removeSteps_sized {l : Lane} (gone : List Half) (h : l.Sized) : (l.removeSteps gone).Sized :=
  ⟨(List.length_filter_le _ _).trans h.1, h.2⟩

theorem loaderRestart_acts {s : State} {i : LaneId} (hstart : E → s.startup = false) :
    Acts c E s (s.loaderRestart i) := by
  unfold State.loaderRestart
  dsimp only
  refine Acts.trans ?_ ((recordEvent_besides _ i .loader).act c E).acts
  split
  · rw [loseWork_eq]
    have hlost := restarted_lost (g := fun l => l.removeSteps ((s.lane i).outstanding.map OutEntry.stepId)) ‹_›
      (fun _ => rfl) (fun _ => ⟨rfl, rfl, removeSteps_sized _⟩) hstart
    exact (Act.lost (o := .lost) rfl hlost).acts
  · exact Act.acts (.moved (restarted_moved (g := id) ‹_› (fun _ => ⟨rfl, rfl, rfl, id⟩) hstart))

theorem powerOffEngine_eq (l : Lane) : l.powerOffEngine =
    { l with
      mode := .app, txSeq := 0#8, lastTaken := none, hunt := .hunt, gapTimer := none, inFlight := none
      control := none, txQueue := [], marks := [], txBusy := l.abandon.txBusy } := by
  unfold Lane.powerOffEngine
  rw [abandon_eq]
  rfl

theorem powerOffEngine_sized {l : Lane} (h : l.Sized) : l.powerOffEngine.Sized := by
  rw [powerOffEngine_eq]
  exact ⟨Nat.zero_le _, Nat.zero_le _, h.2.2⟩

theorem powerOffRestart_acts {s : State} {i : LaneId} (hstart : E → s.startup = false) :
    Acts c E s (s.powerOffRestart i) := by
  unfold State.powerOffRestart
  dsimp only
  by_cases hbound : (s.lane i).state = .bound
  · rw [if_pos hbound, if_pos hbound, loseWork_eq, updLane_updLane]
    refine (Act.lost (o := .lost) rfl (restarted_lost hbound (fun l => ?_) (fun l => ?_) hstart)).acts
    · rw [powerOffEngine_eq]; rfl
    · refine ⟨by rw [powerOffEngine_eq]; rfl, by rw [powerOffEngine_eq]; rfl,
        fun h => powerOffEngine_sized (removeSteps_sized _ h)⟩
  · rw [if_neg hbound, if_neg hbound, updLane_updLane]
    refine Act.acts (.moved (restarted_moved hbound (fun l => ?_) hstart))
    exact ⟨by rw [powerOffEngine_eq], by rw [powerOffEngine_eq], by rw [powerOffEngine_eq], powerOffEngine_sized⟩

theorem switchPower_acts {s : State} {i : LaneId} {level : Bool}
    (hstart : E → (s.lane i).state.occupied = true → s.startup = false) : Acts c E s (s.switchPower i level) := by
  unfold State.switchPower
  split
  · exact .refl c E s
  · dsimp only
    have hpower : Acts c E s (s.updLane i fun l => { l with power := level }) :=
      (updLane_act ⟨rfl, rfl, rfl, fun _ => le_rfl⟩ id fun _ => id).acts
    split
    · rename_i h
      exact hpower.trans (powerOffRestart_acts fun hE => hstart hE h.2)
    · exact hpower

/-! ### A lane stalled, disabled, enabled -/

theorem updLane_self (s : State) (i : LaneId) : s.updLane i id = s := by
  simp [State.updLane, State.lane]

theorem stall_acts {s : State} {i : LaneId} (hstart : E → s.startup = false) : Acts c E s (s.stall i) := by
  unfold State.stall
  dsimp only
  refine Acts.trans ?_ ((recordEvent_besides _ i .stalled).act c E).acts
  let g : Lane → Lane := fun l =>
    { l with inFlight := none, resume := l.state.asResume, txQueue := [], control := none }
  let u := (s.setFlag i .sendFailed).updLane i g
  have hsu : Acts c E s u := by
    have hflag : Act c E s (s.setFlag i .sendFailed) := updLane_act ⟨rfl, rfl, rfl, fun _ => le_rfl⟩ id fun _ => id
    refine hflag.acts.trans (updLane_act ⟨rfl, rfl, rfl, fun _ => le_rfl⟩ (fun h => ?_) fun _ h => ?_).acts
    · exact ⟨Nat.zero_le _, h.2⟩
    · exact ⟨h.1, fun _ => ⟨rfl, rfl, rfl⟩, h.2.2⟩
  have hlane : u.lane i = g { s.lane i with flags := withFlag (s.lane i).flags .sendFailed } := by
    simp [u, State.setFlag]
  have hout : (s.lane i).state ≠ .bound → (u.lane i).Fits → (s.lane i).outstanding = [] := fun hne h => by
    rw [hlane] at h; exact h.2.2 hne
  refine hsu.trans ?_
  split
  · rename_i hbound
    have hlost : LaneLost E u i id fun l => { l with state := .stalled, announce := .stopped } := by
      refine ⟨fun _ => rfl, fun _ h => (by cases h), fun _ => .inl ⟨rfl, le_rfl⟩, fun _ => rfl, fun _ h => ?_,
        fun _ _ => ?_, hstart⟩
      · exact ⟨h.1, h.2.1, h.2.2.1, Nat.zero_le _, h.2.2.2.2⟩
      · refine .of_occupied rfl (fun _ => ?_) rfl
        rw [hlane]
        exact ⟨rfl, rfl, rfl⟩
    have hact := (Act.lost (c := c) (o := .undelivered) rfl hlost).acts
    rw [updLane_self] at hact
    exact hact
  · rename_i hunbound
    refine Act.acts (.moved ⟨?_, rfl, rfl, le_rfl, id, fun _ h => ?_, fun h => (by cases h),
      fun hE => .inr (hstart hE)⟩)
    · rw [hlane]; exact hunbound
    · refine .of_occupied rfl (fun _ => ?_) ?_
      · show (u.lane i).inFlight = none ∧ (u.lane i).control = none ∧ (u.lane i).txQueue = []
        rw [hlane]; exact ⟨rfl, rfl, rfl⟩
      · show (u.lane i).outstanding = []
        rw [hlane]; exact hout hunbound h

theorem servesOwn_eq_false_of_not_occupied {st : LaneState} (h : st.occupied = false) : st.servesOwn = false := by
  revert h
  cases st <;> decide

theorem ne_bound_of_not_occupied {st : LaneState} (h : st.occupied = false) : st ≠ .bound := by
  rintro rfl; cases h

theorem disableLane_acts {s : State} {i : LaneId}
    (hstart : E → (s.lane i).state.occupied = true → s.startup = false) : Acts c E s (s.disableLane i) := by
  unfold State.disableLane
  dsimp only
  split
  · rename_i hocc
    have hset : Acts c E s (s.updLane i fun l => { l with settings := { l.settings with enabled := false } }) :=
      (updLane_act ⟨rfl, rfl, rfl, fun _ => le_rfl⟩ id fun _ => id).acts
    exact hset.trans (depart_acts fun hE => hstart hE hocc)
  · rename_i hocc
    have hocc' : (s.lane i).state.occupied = false := by simpa using hocc
    rw [updLane_updLane]
    refine Act.acts (.moved ⟨ne_bound_of_not_occupied hocc', rfl, rfl, le_rfl, id, fun _ h => ?_,
      fun h => (by cases h), fun _ => .inl rfl⟩)
    exact ⟨fun _ => h.1 hocc', fun _ => h.2.1 (servesOwn_eq_false_of_not_occupied hocc'),
      fun _ => h.2.2 (ne_bound_of_not_occupied hocc')⟩

theorem enableLane_acts (s : State) (i : LaneId) : Acts c E s (s.enableLane i) := by
  unfold State.enableLane
  dsimp only
  have hset : Acts c E s (s.updLane i fun l => { l with settings := { l.settings with enabled := true } }) :=
    (updLane_act ⟨rfl, rfl, rfl, fun _ => le_rfl⟩ id fun _ => id).acts
  split
  · rename_i h
    exact hset.trans (leaveOff_acts (by rw [State.lane_updLane_self]; exact h.2) fun _ => h.1)
  · exact hset

theorem setAutoPower_acts {s : State} {i : LaneId} {level : Bool}
    (hstart : E → (s.lane i).state.occupied = true → s.startup = false) : Acts c E s (s.setAutoPower i level) := by
  unfold State.setAutoPower
  split
  · exact .refl c E s
  · dsimp only
    have hset : Acts c E s (s.updLane i fun l => { l with settings := { l.settings with autoPower := level } }) :=
      (updLane_act ⟨rfl, rfl, rfl, fun _ => le_rfl⟩ id fun _ => id).acts
    have hswitch : ∀ b, Acts c E s
        ((s.updLane i fun l => { l with settings := { l.settings with autoPower := level } }).switchPower i b) :=
      fun b => hset.trans (switchPower_acts (by rw [State.lane_updLane_self]; exact hstart))
    split
    · split
      · exact hswitch true
      · exact hset
    · exact hswitch false

end Sys2Proof
end

section
/-! PROOFS of the laws that every step keeps, fourth part: what the lane engines, the seat sense and the dispatcher's
destinations do, as runs of acts. -/

namespace Sys2Proof

open Sys2Proof.Machine

variable {c : Option Instr} {E : Prop}

/-! ### The send side of a lane engine -/

theorem not_servesOwn_of {l : Lane} (h : l.Fits) {f : InFlight} (hf : l.inFlight = some f) :
    l.state.servesOwn = true := by
  cases hs : l.state.servesOwn with
  | true => rfl
  | false =>
    have hnone := (h.2.1 hs).1
    rw [hf] at hnone
    cases hnone

/-- The frame in flight replaced by another. -/
theorem updInFlight_act {s : State} {i : LaneId} {f : InFlight} (hf : (s.lane i).inFlight = some f) (f' : InFlight) :
    Act c E s (s.updLane i fun l => { l with inFlight := some f' }) :=
  updLane_act ⟨rfl, rfl, rfl, fun _ => le_rfl⟩ id fun _ h =>
    ⟨h.1, fun hs => absurd ((not_servesOwn_of h hf).symm.trans hs) (by decide), h.2.2⟩

theorem sendMark_act (s : State) (i : LaneId) : Act c E s (s.updLane i Lane.sendMark) := by
  have hmark : (s.lane i).sendMark = s.lane i ∨ ∃ m rest line, (s.lane i).marks = m :: rest
      ∧ (s.lane i).state.occupied = true
      ∧ (s.lane i).sendMark = { s.lane i with marks := rest, txLine := line } := by
    unfold Lane.sendMark
    split
    · exact .inl rfl
    · split
      · rename_i hfree
        exact .inr ⟨_, _, _, ‹_›, by simp_all, rfl⟩
      · exact .inl rfl
  rcases hmark with h | ⟨m, rest, line, hm, hocc, h⟩
  · exact updLane_act (by rw [h]; exact .refl c _) (by rw [h]; exact id) (by rw [h]; exact fun _ => id)
  · refine updLane_act ?_ ?_ ?_ <;> rw [h]
    · exact ⟨rfl, rfl, rfl, fun _ => le_rfl⟩
    · rintro ⟨htx, hmarks, hrest⟩
      refine ⟨htx, ?_, hrest⟩
      rw [hm, List.length_cons] at hmarks
      show rest.length ≤ 4
      omega
    · exact fun _ hfit => ⟨fun hs => absurd (hocc.symm.trans hs) (by decide), hfit.2⟩

/-- A frame started is taken from its holder (R19). -/
theorem startNew_cases (l : Lane) : l.startNew = l ∨ (l.state.servesOwn = true ∧ ∃ x q f n line,
    q.length ≤ l.txQueue.length ∧ l.startNew =
      { l with control := x, txQueue := q, inFlight := f, txSeq := n, txBusy := true, txLine := line }) := by
  unfold Lane.startNew
  split
  · rename_i hfree
    have hserves : l.state.servesOwn = true := by
      simp only [Lane.freeForOwn, Bool.and_eq_true] at hfree
      exact hfree.1.1.1
    unfold Lane.chooseNew
    cases hc : l.control with
    | some x => exact .inr ⟨hserves, _, _, _, _, _, le_rfl, rfl⟩
    | none =>
      cases hq : l.txQueue with
      | nil => exact .inl rfl
      | cons q rest => exact .inr ⟨hserves, none, rest, _, _, _, by simp, rfl⟩
  · exact .inl rfl

theorem startNew_act (s : State) (i : LaneId) : Act c E s (s.updLane i Lane.startNew) := by
  rcases startNew_cases (s.lane i) with h | ⟨hserves, x, q, f, n, line, hq, h⟩
  · exact updLane_act (by rw [h]; exact .refl c _) (by rw [h]; exact id) (by rw [h]; exact fun _ => id)
  · refine updLane_act ?_ ?_ ?_ <;> rw [h]
    · exact ⟨rfl, rfl, rfl, fun _ => le_rfl⟩
    · exact fun hs => ⟨hq.trans hs.1, hs.2⟩
    · exact fun _ hfit => ⟨hfit.1, fun hs => absurd (hserves.symm.trans hs) (by decide), hfit.2.2⟩

theorem startResend_act (s : State) (i : LaneId) : Act c E s (s.updLane i Lane.startResend) := by
  have hcases : (s.lane i).startResend = s.lane i ∨ ((s.lane i).state.servesOwn = true ∧ ∃ f line,
      (s.lane i).startResend = { s.lane i with inFlight := f, txBusy := true, txLine := line }) := by
    unfold Lane.startResend
    split
    · split
      · rename_i hfree
        simp only [Lane.freeForOwn, Bool.and_eq_true] at hfree
        exact .inr ⟨hfree.1.1.1, _, _, rfl⟩
      · exact .inl rfl
    · exact .inl rfl
  rcases hcases with h | ⟨hserves, f, line, h⟩
  · exact updLane_act (by rw [h]; exact .refl c _) (by rw [h]; exact id) (by rw [h]; exact fun _ => id)
  · refine updLane_act ?_ ?_ ?_ <;> rw [h]
    · exact ⟨rfl, rfl, rfl, fun _ => le_rfl⟩
    · exact id
    · exact fun _ hfit => ⟨hfit.1, fun hs => absurd (hserves.symm.trans hs) (by decide), hfit.2.2⟩

/-- A frame in flight that changes, if there is one (R21). -/
theorem mapInFlight_fits {l : Lane} (h : l.Fits) (f : InFlight → InFlight) (busy : Bool) :
    Lane.Fits { l with txBusy := busy, inFlight := l.inFlight.map f } :=
  ⟨h.1, fun hs => ⟨by simp [(h.2.1 hs).1], (h.2.1 hs).2⟩, h.2.2⟩

theorem lastByteOut_act (s : State) (i : LaneId) : Act c E s (s.updLane i Lane.lastByteOut) :=
  updLane_act ⟨rfl, rfl, rfl, fun _ => le_rfl⟩ id fun _ h => mapInFlight_fits h _ false

theorem retryPauseOut_act (s : State) (i : LaneId) : Act c E s (s.updLane i Lane.retryPauseOut) :=
  updLane_act ⟨rfl, rfl, rfl, fun _ => le_rfl⟩ id fun _ h => mapInFlight_fits h _ (s.lane i).txBusy

theorem countResend_acts {s : State} {i : LaneId} {f : InFlight} (hf : (s.lane i).inFlight = some f)
    (next : SendPhase) (hstart : E → s.startup = false) : Acts c E s (s.countResend i f next) := by
  unfold State.countResend
  split
  · exact stall_acts hstart
  · exact (updInFlight_act hf _).acts

theorem markWindowOut_acts {s : State} {i : LaneId}
    (hstart : ∀ f, (s.lane i).inFlight = some f → E → s.startup = false) : Acts c E s (s.markWindowOut i) := by
  unfold State.markWindowOut
  split
  · split
    · exact countResend_acts ‹_› _ (hstart _ ‹_›)
    all_goals exact .refl c E s
  · exact .refl c E s

/-! ### The receive side of a lane engine -/

theorem setFlag_act (s : State) (i : LaneId) (g : LaneFlag) : Act c E s (s.setFlag i g) :=
  updLane_act ⟨rfl, rfl, rfl, fun _ => le_rfl⟩ id fun _ => id

theorem huntFresh_act (s : State) (i : LaneId) : Act c E s (s.updLane i Lane.huntFresh) :=
  updLane_act ⟨rfl, rfl, rfl, fun _ => le_rfl⟩ id fun _ => id

/-- Marks and received frames come to a lane that holds a phone. -/
theorem Machine.Lane.Fits.receives {l : Lane} (h : l.Fits) (hocc : l.state.occupied = true) (marks : List OwedMark)
    (rx : List RxFrame) (taken : Option Byte) (n : Nat) :
    Lane.Fits { l with marks := marks, rxBuffer := rx, lastTaken := taken, dupCount := n } :=
  ⟨fun hs => absurd (hocc.symm.trans hs) (by decide), h.2.1, h.2.2⟩

theorem markRoom_iff {l : Lane} : l.markRoom = true ↔ l.marks.length < 4 := decide_eq_true_iff

/-- A MARK is owed, and with it perhaps a frame received or a duplicate counted. -/
theorem oweMark_act {s : State} {i : LaneId} {f : Lane → Lane} {seq : Byte} {code : MarkCode} {rx : List RxFrame}
    {taken : Option Byte} {n : Nat} (hocc : (s.lane i).state.occupied = true)
    (hroom : (s.lane i).markRoom = true) (hrx : (s.lane i).Sized → rx.length ≤ 2 ∧ n ≤ 65535)
    (hf : f (s.lane i) =
      { s.lane i with
        marks := (s.lane i).marks ++ [⟨seq, code⟩], rxBuffer := rx, lastTaken := taken, dupCount := n }) :
    Act c E s (s.updLane i f) := by
  rw [markRoom_iff] at hroom
  refine updLane_act ?_ ?_ ?_ <;> rw [hf]
  · exact ⟨rfl, rfl, rfl, fun _ => le_rfl⟩
  · intro hs
    obtain ⟨hlen, hdup⟩ := hrx hs
    obtain ⟨htx, -, -, hout, -, hrest⟩ := hs
    refine ⟨htx, ?_, hlen, hout, hdup, hrest⟩
    rw [List.length_append]
    exact hroom
  · exact fun _ h => h.receives hocc _ _ _ _

theorem checkFailed_acts {s : State} {i : LaneId} (f : RawFrame) (hocc : (s.lane i).state.occupied = true) :
    Acts c E s (s.checkFailed i f) := by
  unfold State.checkFailed
  refine (setFlag_act s i .rxCheck).acts.trans ?_
  have hlane : (s.setFlag i .rxCheck).lane i = flagged (s.lane i) .rxCheck := s.lane_updLane_self i _
  by_cases h : (f.kind != kindMark && ((s.setFlag i .rxCheck).lane i).markRoom) = true
  · have hroom := (Bool.and_eq_true _ _ ▸ h).2
    refine (oweMark_act (seq := f.seq) (code := .spoilt) (taken := (s.lane i).lastTaken) (by rw [hlane]; exact hocc)
      hroom (fun hs => ⟨hs.2.2.1, hs.2.2.2.2.1⟩) ?_).acts
    rw [if_pos h, hlane]
    rfl
  · refine (updLane_act ?_ ?_ ?_).acts <;> rw [if_neg h]
    · exact .refl c _
    · exact id
    · exact fun _ => id

theorem takeFrame_acts {s : State} {i : LaneId} (f : RawFrame) (hocc : (s.lane i).state.occupied = true) :
    Acts c E s (s.takeFrame i f) := by
  unfold State.takeFrame
  dsimp only
  split
  · exact .refl c E s
  · rename_i hroom
    have hroom' : (s.lane i).markRoom = true := by simpa using hroom
    split
    · exact (oweMark_act hocc hroom' (fun hs => ⟨hs.2.2.1, satIncr_le hs.2.2.2.2.1⟩) rfl).acts
    · split
      · exact (oweMark_act hocc hroom' (fun hs => ⟨hs.2.2.1, hs.2.2.2.2.1⟩) rfl).acts
      · rename_i hbuffer
        split
        · exact (oweMark_act hocc hroom' (fun hs => ⟨hs.2.2.1, hs.2.2.2.2.1⟩) rfl).acts.trans
            (setFlag_act _ i .noise).acts
        · refine (oweMark_act hocc hroom' (fun hs => ⟨?_, hs.2.2.2.2.1⟩) rfl).acts
          rw [List.length_append]
          unfold Config.rxBufferSize at hbuffer
          simp only [List.length_singleton]
          omega

theorem takeMark_acts {s : State} {i : LaneId} (seq : Byte) (code : MarkCode) (hstart : E → s.startup = false) :
    Acts c E s (s.takeMark i seq code) := by
  unfold State.takeMark
  split
  · exact .refl c E s
  · rename_i f hf
    split
    · exact .refl c E s
    · split
      · exact (updLane_act ⟨rfl, rfl, rfl, fun _ => le_rfl⟩ id
          fun _ h => ⟨h.1, fun hs => ⟨rfl, (h.2.1 hs).2⟩, h.2.2⟩).acts
      · exact countResend_acts hf _ hstart
      · refine (setFlag_act s i .txSpoilt).acts.trans (countResend_acts ?_ _ hstart)
        rw [State.setFlag, State.lane_updLane_self]
        exact hf
      · exact .refl c E s
      · exact .refl c E s

theorem handleFrame_acts {s : State} {i : LaneId} (f : RawFrame) (hocc : (s.lane i).state.occupied = true)
    (hstart : E → s.startup = false) : Acts c E s (s.handleFrame i f) := by
  unfold State.handleFrame
  split
  · split
    · exact (setFlag_act s i .noise).acts
    · exact takeMark_acts _ _ hstart
  · exact takeFrame_acts f hocc

/-- A mode switch, and a phone on the lane as before (R8, R40). -/
theorem switchMode_acts {s : State} {i : LaneId} (framing : Framing) (hocc : (s.lane i).state.occupied = true)
    (hstart : E → s.startup = false) :
    Acts c E s (s.switchMode i framing) ∧ ((s.switchMode i framing).lane i).state.occupied = true
      ∧ (s.switchMode i framing).startup = s.startup := by
  unfold State.switchMode
  dsimp only
  have hengine : Acts c E s (s.updLane i fun l =>
      { l.abandon with mode := framing, lastTaken := none, txSeq := 0#8, control := none }) := by
    refine (updLane_act ?_ ?_ ?_).acts <;> rw [abandon_eq]
    · exact ⟨rfl, rfl, rfl, fun _ => le_rfl⟩
    · exact id
    · exact fun _ h => ⟨h.1, fun hs => ⟨rfl, rfl, (h.2.1 hs).2.2⟩, h.2.2⟩
  split
  · refine ⟨hengine.trans (loaderRestart_acts hstart), ?_, by rw [loaderRestart_frame]; rfl⟩
    unfold State.loaderRestart
    rw [recordEvent_lane, State.lane_updLane_self]
    rfl
  · refine ⟨hengine, ?_, rfl⟩
    rw [State.lane_updLane_self, abandon_eq]
    exact hocc

theorem receiveFrame_acts {s : State} {i : LaneId} (f : RawFrame)
    (hstart : (s.lane i).state.occupied = true → E → s.startup = false) : Acts c E s (s.receiveFrame i f) := by
  unfold State.receiveFrame
  split
  · rename_i hocc
    dsimp only
    refine (huntFresh_act s i).acts.trans ?_
    have hocc' : ((s.updLane i Lane.huntFresh).lane i).state.occupied = true := by
      rw [State.lane_updLane_self]; exact hocc
    split
    · split
      · exact handleFrame_acts f hocc' (hstart hocc)
      · obtain ⟨hswitch, hocc'', hsame⟩ := switchMode_acts (c := c) (E := E) f.framing hocc' (hstart hocc)
        exact hswitch.trans (handleFrame_acts f hocc'' fun hE => hsame.trans (hstart hocc hE))
    · exact checkFailed_acts f hocc'
  · exact .refl c E s

theorem receiveCharacter_acts {s : State} {i : LaneId} (char : Byte) (stopLow : Bool)
    (hstart : (s.lane i).state.occupied = true → E → s.startup = false) :
    Acts c E s (s.receiveCharacter i char stopLow) := by
  unfold State.receiveCharacter
  split
  · split
    · exact (huntFresh_act s i).acts.trans (setFlag_act _ i .noise).acts
    · split
      · rename_i next noise _
        have henter : Acts c E s (s.updLane i fun l => l.enterHunt next) :=
          (updLane_act ⟨rfl, rfl, rfl, fun _ => le_rfl⟩ id fun _ => id).acts
        dsimp only
        split
        · exact henter.trans (setFlag_act _ i .noise).acts
        · exact henter
      · exact receiveFrame_acts _ hstart
  · exact .refl c E s

theorem gapTimeout_acts (s : State) (i : LaneId) : Acts c E s
    (if (s.lane i).gapTimer = some 0 then (s.updLane i Lane.huntFresh).setFlag i .truncated else s) := by
  split
  · exact (huntFresh_act s i).acts.trans (setFlag_act _ i .truncated).acts
  · exact .refl c E s

/-! ### Seat sense and the pocket's timers -/

theorem debounceOut_acts {s : State} {i : LaneId} (hstart : E → (s.lane i).state ≠ .off → s.startup = false) :
    Acts c E s (s.debounceOut i) := by
  unfold State.debounceOut
  dsimp only
  split
  · have hseat : Acts c E s (s.updLane i fun l => { l with debounce := none, seat := l.rawSeat }) :=
      (updLane_act ⟨rfl, rfl, rfl, fun _ => le_rfl⟩ id fun _ => id).acts
    split
    · exact hseat
    · refine hseat.trans ?_
      unfold State.seatEdge
      rw [State.lane_updLane_self]
      have hon : ∀ st, (s.lane i).state = st → st ≠ .off → E →
          (s.updLane i fun l => { l with debounce := none, seat := l.rawSeat }).startup = false :=
        fun st hst hne hE => hstart hE (by rw [hst]; exact hne)
      split
      · rename_i hst
        exact seatLane_acts (by rw [State.lane_updLane_self]; exact hst ▸ (by decide)) (hon _ hst (by decide))
      iterate 4
        rename_i hst
        exact depart_acts (hon _ hst (by decide))
      exact .refl c E _
  · exact .refl c E s

theorem announceOut_acts (s : State) (i : LaneId) : Acts c E s (s.announceOut i) := by
  unfold State.announceOut
  split
  · refine Acts.trans ?_ ((recordEvent_besides _ i .mute).act c E).acts
    exact Acts.trans (updLane_act ⟨rfl, rfl, rfl, fun _ => le_rfl⟩ id fun _ => id).acts (setFlag_act _ i .mute).acts
  all_goals exact .refl c E s

theorem keyPulseOut_act (s : State) (i : LaneId) : Act c E s
    (s.updLane i fun l => if l.keyPulse = some 0 then { l with keyPulse := none } else l) := by
  by_cases h : (s.lane i).keyPulse = some 0
  · refine updLane_act ?_ ?_ ?_ <;> rw [if_pos h]
    · exact ⟨rfl, rfl, rfl, fun _ => le_rfl⟩
    · exact id
    · exact fun _ => id
  · refine updLane_act ?_ ?_ ?_ <;> rw [if_neg h]
    · exact .refl c _
    · exact id
    · exact fun _ => id

end Sys2Proof
end

section
/-! PROOFS of the laws that every step keeps, fifth part: what the destinations of the dispatcher, the orders and the
other commands do, as runs of acts. -/

namespace Sys2Proof

open Sys2Proof.Machine

variable {c : Option Instr} {E : Prop}

/-! ### Records and queues changed, lanes as they are -/

theorem updRecord_act {s : State} {r : RecordId} {f : StepRecord → StepRecord}
    (hf : RecordKept (s.record r) (f (s.record r))) : Act c E s (s.updRecord r f) := by
  refine .kept ⟨fun ⟨hl, hi, hu, hb, hd⟩ => ⟨hl, hi, hu, hb, hd⟩, rfl, rfl, rfl, id, fun _ => .refl c _, fun q => ?_,
    rfl, rfl, rfl⟩ fun _ he ha => ⟨he, ha⟩
  rw [State.record_updRecord]
  split
  · subst_vars; exact hf
  · exact .refl _

theorem offerBulk_act (s : State) {r : BulkReport} (hr : summariesOf [r] = []) : Act c E s (s.offerBulk r) := by
  rcases offerBulk_cases s r with ⟨hroom, -, h⟩ | ⟨-, h⟩ <;> rw [h]
  · refine .kept ⟨fun ⟨hl, hi, hu, hb, hd⟩ => ⟨hl, hi, hu, ?_, hd⟩, rfl, rfl, rfl, id, fun _ => .refl c _,
      fun _ => .refl _, rfl, rfl, ?_⟩ fun _ he ha => ⟨he, ha⟩
    · show (s.bulk ++ [r]).length ≤ 64
      rw [List.length_append]
      exact hroom
    · show summariesOf (s.bulk ++ [r]) = summariesOf s.bulk
      rw [summariesOf_append, hr, List.append_nil]
  · exact .kept ⟨fun ⟨hl, hi, hu, hb, hd⟩ => ⟨hl, hi, hu, hb, hd.1, hd.2.1, hd.2.2.1, satIncr_le hd.2.2.2⟩, rfl, rfl,
      rfl, id, fun _ => .refl c _, fun _ => .refl _, rfl, rfl, rfl⟩ fun _ he ha => ⟨he, ha⟩

/-- The uplink changes its ingress queue, its drop counters and fields of which no law speaks. -/
theorem ingress_act {s t : State}
    (h : t =
      { s with
        ingress := t.ingress, fcsDrops := t.fcsDrops, ingressDrops := t.ingressDrops
        hostAddress := t.hostAddress })
    (hs : CapacityLaw s → t.ingress.length ≤ 8 ∧ t.fcsDrops ≤ 65535 ∧ t.ingressDrops ≤ 65535) : Act c E s t := by
  refine .kept ⟨fun hcap => ?_, by rw [h], by rw [h], by rw [h], by rw [h]; exact id, fun i => ?_, fun r => ?_,
    by rw [h], by rw [h], by rw [h]⟩ fun _ he ha => ?_
  · obtain ⟨hingress, hfcs, hdrops⟩ := hs hcap
    obtain ⟨hl, -, hu, hb, -, -, hd⟩ := hcap
    rw [h]
    exact ⟨hl, hingress, hu, hb, hfcs, hdrops, hd⟩
  · rw [h]; exact .refl c _
  · rw [h]; exact .refl _
  · rw [h]; exact ⟨he, ha⟩

theorem countDamaged_act (s : State) : Act c E s s.countDamaged :=
  ingress_act (by rfl) fun h => ⟨h.ingress, satIncr_le h.drops.1, h.drops.2.1⟩

theorem offerOrder_act (s : State) (source : List Byte) (o : Order) : Act c E s (s.offerOrder source o) := by
  unfold State.offerOrder
  split
  · rename_i hroom
    refine ingress_act (by rfl) fun h => ⟨?_, h.drops.1, h.drops.2.1⟩
    show (s.ingress ++ [o]).length ≤ 8
    rw [List.length_append]
    exact hroom
  · exact ingress_act (by rfl) fun h => ⟨h.ingress, h.drops.1, satIncr_le h.drops.2.1⟩

theorem holdBulk_act (s : State) (quanta : Nat) : Act c E s (s.holdBulk quanta) :=
  Besides.act (by rfl) c E

theorem takeUplinkFrame_acts (s : State) (f : List Byte) : Acts c E s (s.takeUplinkFrame f) := by
  unfold State.takeUplinkFrame
  split
  · exact (holdBulk_act s _).acts
  · split
    · split
      · exact (offerOrder_act s _ _).acts
      · exact .refl c E s
    · exact .refl c E s

theorem passMs_lane (s : State) (i : LaneId) : s.passMs.lane i = (s.lane i).passMs := by
  simp only [State.lane, State.passMs, Fin.getElem_fin, Vector.getElem_ofFn]

theorem passMs_record (s : State) (r : RecordId) :
    s.passMs.record r = { s.record r with deadline := countDown 1 (s.record r).deadline } := by
  simp only [State.record, State.passMs, Fin.getElem_fin, Vector.getElem_ofFn]

theorem passMs_instrument (s : State) (k : InstrumentId) :
    s.passMs.instrument k = { s.instrument k with holdTimer := countDown 1 (s.instrument k).holdTimer } := by
  simp only [State.instrument, State.passMs, Fin.getElem_fin, Vector.getElem_ofFn]

theorem passMs_frame (s : State) : s.passMs =
    { s with
      lanes := s.passMs.lanes, records := s.passMs.records, instruments := s.passMs.instruments
      bulkHold := s.passMs.bulkHold, intervalTimer := s.passMs.intervalTimer
      spacingTimer := s.passMs.spacingTimer } := by simp only [State.passMs]

/-- One millisecond touches counts of time only. -/
theorem passMs_kept (s : State) : Kept c s s.passMs := by
  have hframe := passMs_frame s
  refine ⟨fun hs => ⟨fun i => ?_, ?_, ?_, ?_, ?_⟩, by rw [hframe], by rw [hframe], by rw [hframe],
    by rw [hframe]; exact id, fun i => ?_, fun r => ?_, by rw [hframe], by rw [hframe], by rw [hframe]⟩
  · rw [passMs_lane]; exact hs.lanes i
  · rw [hframe]; exact hs.ingress
  · rw [hframe]; exact hs.urgent
  · rw [hframe]; exact hs.bulk
  · rw [hframe]; exact hs.drops
  · rw [passMs_lane]; exact ⟨rfl, rfl, rfl, fun _ => le_rfl⟩
  · rw [passMs_record]; exact ⟨rfl, rfl, fun _ => rfl⟩

theorem passMs_arbitrated (s : State) : Arbitrated s s.passMs := by
  refine Arbitrated.of_each (fun i => ?_) (fun _ _ i h => ?_) fun k h => ?_
  · rw [passMs_lane]; rfl
  · rw [passMs_lane]
    exact ⟨h.1, fun hs => ⟨by simp [Lane.passMs, (h.2.1 hs).1], (h.2.1 hs).2⟩, h.2.2⟩
  · rw [passMs_instrument]
    exact ⟨h.holder, h.waiting, h.revoked, h.enabled, fun hn => by
      show countDown 1 (s.instrument k).holdTimer = none
      rw [h.timer hn]; rfl⟩

theorem passMs_act (s : State) : Act c E s s.passMs := .kept (passMs_kept s) fun _ => passMs_arbitrated s

/-! ### HELLO, RESULT and TEXT -/

theorem dispatched_acts (s : State) (i : LaneId) : Acts c E s (s.dispatched i) := by
  have hlane : Act c E s (s.updLane i fun l => { l with rxBuffer := l.rxBuffer.tail }) := by
    refine updLane_act ⟨rfl, rfl, rfl, fun _ => le_rfl⟩ (fun h => ?_) fun _ h => ?_
    · obtain ⟨htx, hmarks, hrx, hrest⟩ := h
      refine ⟨htx, hmarks, ?_, hrest⟩
      rw [List.length_tail]
      omega
    · refine ⟨fun hs => ⟨(h.1 hs).1, ?_⟩, h.2⟩
      show (s.lane i).rxBuffer.tail = []
      rw [(h.1 hs).2]
      rfl
  exact updLane_besides_act hlane (by rfl)

theorem dispatched_lane (s : State) (i : LaneId) :
    (s.dispatched i).lane i = { s.lane i with rxBuffer := (s.lane i).rxBuffer.tail } :=
  s.lane_updLane_self i fun l => { l with rxBuffer := l.rxBuffer.tail }

/-- A frame dispatched comes from a lane that holds one. -/
theorem dispatch_cases (s : State) (mine : RxFrame → Bool) (act : LaneId → RxFrame → State → State) :
    s.dispatch mine act = s
      ∨ ∃ i f, (s.lane i).rxBuffer ≠ [] ∧ mine f = true ∧ s.dispatch mine act = act i f (s.dispatched i) := by
  unfold State.dispatch
  split
  · rename_i i f hnext
    split
    · refine .inr ⟨i, f, ?_, ‹_›, rfl⟩
      obtain ⟨j, -, hj⟩ := List.exists_of_findSome?_eq_some hnext
      obtain ⟨g, hg, hjg⟩ := Option.map_eq_some_iff.1 hj
      cases hjg
      intro hnil
      rw [hnil] at hg
      cases hg
    · exact .inl rfl
  · exact .inl rfl

theorem depart_lane_self (s : State) (i : LaneId) (cause : DepartCause) :
    ((s.depart i cause).lane i).state = cause.stateAfter ∧ ((s.depart i cause).lane i).identity = none := by
  unfold State.depart
  rw [recordEvent_lane, State.lane_updLane_self]
  exact ⟨rfl, rfl⟩

/-- A HELLO on a lane with a phone that is not BOUND (R36, R38, R39). -/
theorem helloByState_of_unbound {s : State} {i : LaneId} {id : List Byte} (hocc : (s.lane i).state.occupied = true)
    (hne : (s.lane i).state ≠ .bound) :
    s.helloByState i id =
      if (s.lane i).identity = none ∨ (s.lane i).identity = some id then s.bindOrHold i id else s.swap i id := by
  unfold State.helloByState
  cases hst : (s.lane i).state <;> cases hid : (s.lane i).identity <;>
    simp_all [LaneState.occupied]

/-- The roster under a HELLO (R35 to R39). `hstart`: the lane holds a phone. -/
theorem helloByState_deed {s u : State} {i : LaneId} (id : List Byte) (hsu : Acts c E s u)
    (hsame : (u.lane i).identity = (s.lane i).identity)
    (hstart : (u.lane i).state.occupied = true → E → u.startup = false) :
    Deed c E s (u.helloByState i id) := by
  have hbind : (u.lane i).state.occupied = true → (u.lane i).state ≠ .bound →
      ((u.lane i).identity = none ∨ (u.lane i).identity = some id) → Deed c E s (u.bindOrHold i id) :=
    fun hocc hne hid => .binds hsu hocc hne hid (fun h => hsame.trans h) (hstart hocc)
  have hswap : (u.lane i).state.occupied = true → (u.lane i).identity ≠ some id → Deed c E s (u.swap i id) := by
    intro hocc hne
    obtain ⟨hstate, hnone⟩ := depart_lane_self u i .swapped
    refine .binds (hsu.trans (depart_acts (hstart hocc))) ?_ ?_ (.inl hnone) (fun h => ?_) fun hE => ?_
    · rw [hstate]; rfl
    · rw [hstate]; decide
    · exact absurd (hsame.trans h) hne
    · rw [depart_frame]; exact hstart hocc hE
  by_cases hocc : (u.lane i).state.occupied = true
  · by_cases hbound : (u.lane i).state = .bound
    · unfold State.helloByState
      rw [hbound]
      dsimp only
      split
      · exact .acts (hsu.trans (rebind_acts hbound (hstart hocc)))
      · exact hswap hocc ‹_›
    · rw [helloByState_of_unbound hocc hbound]
      split
      · exact hbind hocc hbound ‹_›
      · rename_i hne
        exact hswap hocc fun h => hne (.inr h)
  · unfold State.helloByState
    cases hst : (u.lane i).state <;> simp only [hst, LaneState.occupied, not_true_eq_false] at hocc ⊢ <;>
      exact .acts hsu

theorem takeHello_deed {s u : State} {i : LaneId} (f : RxFrame) (hsu : Acts c E s u)
    (hsame : (u.lane i).identity = (s.lane i).identity)
    (hstart : (u.lane i).state.occupied = true → E → u.startup = false) : Deed c E s (takeHello i f u) := by
  unfold takeHello
  split
  · exact .acts hsu
  · split
    · exact .acts (hsu.trans (setFlag_act u i .badHello).acts)
    · exact helloByState_deed f.payload hsu hsame hstart

end Sys2Proof
end

section
/-! PROOFS of the laws that every step keeps, sixth part: results, claims and holds as runs of acts. -/

namespace Sys2Proof

open Sys2Proof.Machine

variable {c : Option Instr} {E : Prop}

/-! ### RESULT and TEXT -/

theorem offerBulk_lane (s : State) (r : BulkReport) (j : LaneId) : (s.offerBulk r).lane j = s.lane j := by
  rw [offerBulk_eq]; rfl

theorem reportUnjudged_act (s : State) (i : LaneId) (f : RxFrame) (k : TextClass) :
    Act c E s (s.reportUnjudged i f k) := offerBulk_act s rfl

theorem strayResult_acts (s : State) (i : LaneId) (f : RxFrame) (id : Half) :
    Acts c E s (s.strayResult i f id) := by
  unfold State.strayResult
  split
  · exact (setFlag_act s i .stray).acts.trans
      ((setFlag_act _ i .late).acts.trans (reportUnjudged_act _ i f .late).acts)
  · exact (setFlag_act s i .stray).acts.trans (reportUnjudged_act _ i f .stray).acts

theorem badTagResult_acts (s : State) (i : LaneId) (f : RxFrame) : Acts c E s (s.badTagResult i f) :=
  (setFlag_act s i .badTag).acts.trans ((setFlag_act _ i .stray).acts.trans (reportUnjudged_act _ i f .stray).acts)

theorem rank_le_worse (a b : Verdict) : a.rank ≤ (a.worse b).rank := by
  unfold Verdict.worse
  split
  · exact Nat.le_of_lt ‹_›
  · exact le_rfl

/-- A judgement counts on the lane's board and makes its verdict no better (R120). -/
theorem judgedBoard_act (s : State) (i : LaneId) (stepId : Half) (tag : Byte) (f : Findings) :
    Act c E s (s.updLane i fun l => { l with board := l.board.judged stepId tag f }) := by
  refine updLane_act ⟨rfl, rfl, rfl, fun _ => rank_le_worse _ _⟩ (fun h => ?_) fun _ h => h
  obtain ⟨htx, hmarks, hrx, hout, hdup, hbind, hpass, hmarginal, hfail⟩ := h
  refine ⟨htx, hmarks, hrx, hout, hdup, hbind, ?_, ?_, ?_⟩
  · show (if f.verdict = .pass then satIncr Config.counterMax (s.lane i).board.passCount else _) ≤ 65535
    split
    · exact satIncr_le hpass
    · exact hpass
  · show (if f.verdict = .marginal then satIncr Config.counterMax (s.lane i).board.marginalCount else _) ≤ 65535
    split
    · exact satIncr_le hmarginal
    · exact hmarginal
  · show (if f.verdict = .fail then satIncr Config.counterMax (s.lane i).board.failCount else _) ≤ 65535
    split
    · exact satIncr_le hfail
    · exact hfail

/-- A member entry that changes and owes as before leaves its record as the laws see it. -/
theorem updMember_recordKept {n : StepRecord} {i : LaneId} {f : Member → Member}
    (hf : ∀ m, n.members[i] = some m → (f m).outcome.owing = m.outcome.owing) :
    RecordKept n (n.updMember i f) := by
  refine ⟨rfl, rfl, fun j => ?_⟩
  rw [owes_eq_any, owes_eq_any, Fin.getElem_fin, updMember_getElem]
  split
  · subst_vars
    cases hm : n.members[j] with
    | none => simp
    | some m => simpa using hf m hm
  · rfl

theorem setPartial_act (s : State) (r : RecordId) (i : LaneId) : Act c E s (s.setOutcome r i .partialAnswer) := by
  unfold State.setOutcome
  split
  · rename_i h
    refine updRecord_act (updMember_recordKept fun m hm => ?_)
    have howes := h.2
    rw [owes_eq_any, hm, Option.any_some] at howes
    exact howes.symm
  · exact .kept (.refl c s) fun _ => .refl s

theorem copyResult_cases (s : State) (i : LaneId) (r : RecordId) (v : Verdict) (p : List Byte) :
    s.copyResult i r v p = s ∨ ∃ n, s.copyResult i r v p = s.offerBulk (.copy i v n p) := by
  unfold State.copyResult
  split
  · exact .inr ⟨_, rfl⟩
  · exact .inl rfl

theorem settleResult_final (s : State) (i : LaneId) (e : OutEntry) :
    s.settleResult i e.record true = State.loseEntry i .answered s e := rfl

theorem judgeResult_acts {s : State} {i : LaneId} {e : OutEntry} (he : e ∈ (s.lane i).outstanding)
    (p : List Byte) : Acts c E s (s.judgeResult i e.record p) := by
  unfold State.judgeResult
  dsimp only
  let f := judge s.limits (s.record e.record).limitGroup (s.record e.record).tag (s.record e.record).statEntry
    (resultOfPayload p)
  let u := (s.updRecord e.record fun n => n.updMember i fun m => m.judged f).updLane i fun l =>
    { l with board := l.board.judged (resultOfPayload p).stepId (s.record e.record).tag f }
  have hsu : Acts c E s u := (updRecord_act (updMember_recordKept (f := fun m => m.judged f) fun _ _ => rfl)).acts.trans
    (judgedBoard_act _ i _ _ f).acts
  have huv : Acts c E u (u.copyResult i e.record f.verdict p)
      ∧ ((u.copyResult i e.record f.verdict p).lane i) = u.lane i := by
    rcases copyResult_cases u i e.record f.verdict p with h | ⟨n, h⟩ <;> rw [h]
    · exact ⟨.refl c E u, rfl⟩
    · exact ⟨(offerBulk_act u rfl).acts, offerBulk_lane u _ i⟩
  obtain ⟨hcopy, hlane⟩ := huv
  refine hsu.trans (hcopy.trans ?_)
  by_cases hfinal : (resultOfPayload p).final = true
  · rw [hfinal, settleResult_final]
    refine (Act.entryLost rfl ?_).acts
    rw [hlane]
    simp only [u, State.lane_updLane_self, State.lane_updRecord]
    exact he
  · rw [Bool.not_eq_true] at hfinal
    rw [hfinal]
    exact (setPartial_act _ e.record i).acts

theorem takeResult_acts (s : State) (i : LaneId) (f : RxFrame) : Acts c E s (takeResult i f s) := by
  unfold takeResult
  dsimp only
  split
  · exact strayResult_acts s i f _
  · rename_i e hfind
    split
    · exact judgeResult_acts (List.mem_of_find?_eq_some hfind) _
    · exact badTagResult_acts s i f

/-! ### Claims, releases and holds -/

theorem Machine.Instrument.Fair.withRevoked {n : Instrument} {b : LaneId → Prop} (h : n.Fair b) {w : LaneSet}
    (hw : ∀ j, inSet w j = true → b j) : Instrument.Fair { n with revoked := w } b :=
  ⟨h.holder, h.waiting, hw, h.enabled, h.timer⟩

/-- A lane leaves an instrument's revoked set. -/
theorem Machine.Instrument.Fair.revokedLess {n : Instrument} {b : LaneId → Prop} (h : n.Fair b) (i : LaneId) :
    Instrument.Fair { n with revoked := removeLane n.revoked i } b :=
  h.withRevoked fun j hj => h.revoked j (inSet_of_inSet_removeLane hj).1

/-- Instrument records changed one at a time. -/
theorem fair_updInstrument {s : State} {b : LaneId → Prop} {k : InstrumentId} {f : Instrument → Instrument}
    (hf : (s.instrument k).Fair b → (f (s.instrument k)).Fair b) (m : InstrumentId)
    (h : (s.instrument m).Fair b) : ((s.updInstrument k f).instrument m).Fair b := by
  rw [State.instrument_updInstrument]
  split
  · subst_vars; exact hf h
  · exact h

theorem servesOwn_of_bound {st : LaneState} (h : st = .bound) : st.servesOwn = true := by rw [h]; rfl

theorem updInstrument_act {s : State} {k : InstrumentId} {f : Instrument → Instrument}
    (hf : (s.instrument k).Fair s.bound → (f (s.instrument k)).Fair s.bound) : Act c E s (s.updInstrument k f) :=
  .kept ((updInstrument_arbitration s k f).kept c) fun _ =>
    (updInstrument_arbitration s k f).arbitrated (fun _ _ _ => .inl rfl) (fair_updInstrument hf)

theorem placeControl_act {s : State} {i : LaneId} (hserves : E → (s.lane i).state.servesOwn = true)
    (kind : ControlKind) (k : InstrumentId) : Act c E s (s.placeControl i kind k) :=
  updLane_act ⟨rfl, rfl, rfl, fun _ => le_rfl⟩ id fun hE h => h.control (hserves hE) _ _

theorem grant_act {s : State} {k : InstrumentId} {i : LaneId} (hbound : (s.lane i).state = .bound)
    (henabled : (s.instrument k).enabled = true) : Act c E s (s.grant k i) := by
  refine .kept ((grant_arbitration s k i).kept c) fun _ =>
    (grant_arbitration s k i).arbitrated (fun _ _ j => ?_) fun m h => ?_
  · rw [grant_lane]
    split
    · subst_vars; exact .inr (servesOwn_of_bound hbound)
    · exact .inl rfl
  · rw [grant_instrument]
    split
    · subst_vars; exact h.granted hbound henabled
    · exact h

theorem denyClaim_acts {s : State} {i : LaneId}
    (hserves : E → (s.lane i).state ≠ .stalled → (s.lane i).state.servesOwn = true) (k : InstrumentId) :
    Acts c E s (s.denyClaim i k) := by
  unfold State.denyClaim
  split
  · exact .refl c E s
  · exact (placeControl_act (fun hE => hserves hE ‹_›) .deny k).acts

/-- A lane joins the waiting list of an instrument that another holds (R142). -/
theorem wait_act {s : State} {i : LaneId} {k : InstrumentId} (hbound : (s.lane i).state = .bound)
    (hheld : (s.instrument k).holder ≠ none) (hother : (s.instrument k).holder ≠ some i) :
    Act c E s (s.updInstrument k fun n => { n with waiting := addLane n.waiting i }) := by
  refine updInstrument_act fun h => ⟨fun j hj => ⟨(h.holder j hj).1, ?_⟩, fun j hj => ?_, h.revoked, h.enabled, h.timer⟩
  · rw [inSet_addLane, (h.holder j hj).2, Bool.false_or, decide_eq_false_iff_not]
    rintro rfl
    exact hother hj
  · rw [inSet_addLane, Bool.or_eq_true, decide_eq_true_iff] at hj
    refine ⟨?_, Option.isSome_iff_ne_none.2 hheld⟩
    rcases hj with hw | rfl
    · exact (h.waiting j hw).1
    · exact hbound

/-- A CLAIM (R142). `hserves`: it comes from a lane with a phone. -/
theorem claim_acts {s : State} {i : LaneId}
    (hserves : E → (s.lane i).state ≠ .stalled → (s.lane i).state.servesOwn = true) (k : InstrumentId) :
    Acts c E s (s.claim i k) := by
  unfold State.claim
  dsimp only
  let u := s.updInstrument k fun n => { n with revoked := removeLane n.revoked i }
  have hsu : Acts c E s u := (updInstrument_act fun h => h.revokedLess i).acts
  have hu : u.instrument k = { s.instrument k with revoked := removeLane (s.instrument k).revoked i } :=
    s.instrument_updInstrument_self k _
  refine hsu.trans ?_
  split
  · exact denyClaim_acts (s := u) hserves k
  · rename_i hclaims
    push Not at hclaims
    obtain ⟨hbound, henabled⟩ := hclaims
    split
    · exact .refl c E u
    · rename_i hnew
      push Not at hnew
      split
      · exact (grant_act (s := u) hbound (by rw [hu]; simpa using henabled)).acts
      · exact (wait_act (s := u) hbound (by rw [hu]; assumption) (by rw [hu]; exact hnew.1)).acts

theorem takeClaim_acts {s : State} {i : LaneId}
    (hserves : E → (s.lane i).state ≠ .stalled → (s.lane i).state.servesOwn = true) (f : RxFrame) :
    Acts c E s (takeClaim i f s) := by
  unfold takeClaim
  split
  · exact claim_acts hserves _
  · exact .refl c E s

/-- A hold that has ended, and its instrument passed on (R146). -/
theorem passOn_act {s u : State} {k : InstrumentId} (harb : Arbitration s u)
    (hholder : (s.instrument k).holder.isSome = true)
    (hfreed : u.instrument k = { (s.instrument k).freed with revoked := (u.instrument k).revoked })
    (hothers : ∀ m, m ≠ k → u.instrument m = s.instrument m)
    (hcontrol : ArbiterLaw s → ∀ j, (u.lane j).control = (s.lane j).control ∨ (s.lane j).state.servesOwn = true)
    (hrevoked : (s.instrument k).Fair s.bound → ∀ j, inSet (u.instrument k).revoked j = true → s.bound j) :
    Act c E s (u.chooseNext k) := by
  obtain ⟨hself, hne, hlane, -⟩ := chooseNext_spec u k
  have hall := harb.trans (chooseNext_arbitration u k)
  refine .kept (hall.kept c) fun _ => hall.arbitrated (fun _ ha j => ?_) fun m h => ?_
  · rw [hlane]
    split
    · rename_i hnext
      have hwait := inSet_of_nextOf hnext
      rw [hfreed] at hwait
      exact .inr (servesOwn_of_bound ((arbiterLaw_iff.1 ha k).waiting j hwait).1)
    · exact hcontrol ha j
  · by_cases hm : m = k
    · subst hm
      rw [hself]
      exact h.passedOn hholder hfreed (hrevoked h)
    · rw [hne m hm, hothers m hm]
      exact h

theorem release_acts (s : State) (i : LaneId) (k : InstrumentId) : Acts c E s (s.release i k) := by
  unfold State.release
  dsimp only
  split
  · rename_i hholder
    refine (passOn_act (u := (s.updInstrument k Instrument.freed).reportInstrument k .released i 0)
      ((updInstrument_arbitration s k _).trans (reportInstrument_arbitration _ k .released i 0)) (by rw [hholder]; rfl)
      (by simp [Instrument.freed]) (fun m hm => by simp [State.instrument_updInstrument_of_ne s _ hm])
      (fun _ j => .inl (by simp)) fun h j hj => h.revoked j (by simpa [Instrument.freed] using hj)).acts
  · split
    · exact (setFlag_act s i .lateRelease).acts.trans (updInstrument_act fun h => h.revokedLess i).acts
    · exact .refl c E s

theorem takeRelease_acts (s : State) (i : LaneId) (f : RxFrame) : Acts c E s (takeRelease i f s) := by
  unfold takeRelease
  split
  · exact release_acts s i _
  · exact .refl c E s

theorem holdOut_acts (s : State) (k : InstrumentId) : Acts c E s (s.holdOut k) := by
  unfold State.holdOut
  split
  · rename_i i hholder _
    unfold State.revokeHold
    let u := s.updInstrument k fun n => { n.freed with revoked := addLane n.revoked i }
    refine (passOn_act (u := ((u.setFlag i .holdOver).placeControl i .revoke k).reportInstrument k .revoked i 0)
      ?_ (by rw [hholder]; rfl) (by simp [u, State.placeControl, State.setFlag, Instrument.freed])
      (fun m hm => by simp [u, State.placeControl, State.setFlag, State.instrument_updInstrument_of_ne s _ hm])
      (fun ha j => ?_)
      fun h j hj => ?_).acts
    · exact (updInstrument_arbitration s k _).trans ((setFlag_arbitration _ i .holdOver).trans
        ((placeControl_arbitration _ i .revoke k).trans (reportInstrument_arbitration _ k .revoked i 0)))
    · by_cases hj : j = i
      · subst hj
        exact .inr (servesOwn_of_bound ((arbiterLaw_iff.1 ha k).holder j hholder).1)
      · refine .inl ?_
        simp [u, State.placeControl, State.setFlag, State.lane_updLane, hj]
    · have hadd : inSet (addLane (s.instrument k).revoked i) j = true := by
        simpa [u, State.placeControl, State.setFlag, Instrument.freed] using hj
      rw [inSet_addLane, Bool.or_eq_true, decide_eq_true_iff] at hadd
      rcases hadd with hw | rfl
      · exact h.revoked j hw
      · exact (h.holder j hholder).1
  · exact .refl c E s

end Sys2Proof
end

section
/-! PROOFS of the laws that every step keeps, seventh part: the orders' actions as runs of acts. -/

namespace Sys2Proof

open Sys2Proof.Machine

variable {c : Option Instr} {E : Prop}

/-! ### An instrument disabled (R153) -/

theorem inSet_foldl_removeLane (l : List LaneId) (w : LaneSet) (j : LaneId) :
    inSet (l.foldl removeLane w) j = (inSet w j && !decide (j ∈ l)) := by
  induction l generalizing w with
  | nil => simp
  | cons i l ih => simp [ih, inSet_removeLane, Bool.and_assoc]

theorem foldl_removeLane_laneIds (w : LaneSet) : laneIds.foldl removeLane w = 0#16 :=
  eq_of_inSet_eq fun j => by rw [inSet_foldl_removeLane]; simp [mem_laneIds, inSet]

/-- A lane's turn in the denial of waiters: it leaves the waiting list with a DENY frame, if it waits. -/
def denyTurn (k : InstrumentId) (s : State) (i : LaneId) : State :=
  if inSet (s.instrument k).waiting i then
    (s.updInstrument k fun n => { n with waiting := removeLane n.waiting i }).placeControl i .deny k
  else s

theorem denyTurn_instrument (k m : InstrumentId) (s : State) (i : LaneId) :
    (denyTurn k s i).instrument m =
      if m = k then { s.instrument k with waiting := removeLane (s.instrument k).waiting i }
      else s.instrument m := by
  unfold denyTurn
  cases h : inSet (s.instrument k).waiting i
  · rw [removeLane_of_not_inSet h]
    by_cases hm : m = k <;> simp [hm]
  · simp [State.placeControl, State.instrument_updInstrument]

theorem denyTurn_lane (k : InstrumentId) (s : State) (i j : LaneId) :
    (denyTurn k s i).lane j =
      if j = i ∧ inSet (s.instrument k).waiting j = true then
        { s.lane j with control := some { kind := .deny, instrument := k } }
      else s.lane j := by
  unfold denyTurn
  cases h : inSet (s.instrument k).waiting i
  · simp only [Bool.false_eq_true, if_false]
    rw [if_neg]
    rintro ⟨rfl, hj⟩
    exact Bool.false_ne_true (h.symm.trans hj)
  · by_cases hj : j = i
    · subst hj; simp [State.placeControl, h]
    · simp [State.placeControl, hj, State.lane_updLane]

theorem foldl_denyTurn (k : InstrumentId) (l : List LaneId) (hl : l.Nodup) (s : State) :
    (∀ m, (l.foldl (denyTurn k) s).instrument m =
        if m = k then { s.instrument k with waiting := l.foldl removeLane (s.instrument k).waiting }
        else s.instrument m)
      ∧ ∀ j, (l.foldl (denyTurn k) s).lane j =
        if j ∈ l ∧ inSet (s.instrument k).waiting j = true then
          { s.lane j with control := some { kind := .deny, instrument := k } }
        else s.lane j := by
  induction l generalizing s with
  | nil => exact ⟨fun m => by by_cases hm : m = k <;> simp [hm], fun j => by simp⟩
  | cons i l ih =>
    rw [List.nodup_cons] at hl
    obtain ⟨hinstr, hlane⟩ := ih hl.2 (denyTurn k s i)
    refine ⟨fun m => ?_, fun j => ?_⟩
    · rw [List.foldl_cons, hinstr, denyTurn_instrument, denyTurn_instrument]
      by_cases hm : m = k <;> simp [hm]
    · rw [List.foldl_cons, hlane, denyTurn_instrument, denyTurn_lane, if_pos rfl]
      dsimp only
      rw [inSet_removeLane]
      by_cases hj : j = i
      · subst hj
        simp [hl.1]
      · simp [hj]

theorem denyWaiters_eq (s : State) (k : InstrumentId) : s.denyWaiters k = laneIds.foldl (denyTurn k) s := rfl

theorem denyWaiters_instrument (s : State) (k m : InstrumentId) :
    (s.denyWaiters k).instrument m =
      if m = k then { s.instrument k with waiting := 0#16 } else s.instrument m := by
  rw [denyWaiters_eq, (foldl_denyTurn k laneIds nodup_laneIds s).1, foldl_removeLane_laneIds]

theorem denyWaiters_lane (s : State) (k : InstrumentId) (j : LaneId) :
    (s.denyWaiters k).lane j =
      if inSet (s.instrument k).waiting j then
        { s.lane j with control := some { kind := .deny, instrument := k } }
      else s.lane j := by
  rw [denyWaiters_eq, (foldl_denyTurn k laneIds nodup_laneIds s).2]
  simp [mem_laneIds]

/-- The holder of an instrument that is disabled is revoked (R153). -/
def revokeHolder (s : State) (k : InstrumentId) : State :=
  match (s.instrument k).holder with
  | none => s
  | some i => ((s.updInstrument k Instrument.freed).placeControl i .revoke k).reportInstrument k .revoked i 0

theorem disableInstrument_eq (s : State) (k : InstrumentId) : s.disableInstrument k =
    ((revokeHolder s k).denyWaiters k).updInstrument k fun n => { n with enabled := false } := rfl

theorem revokeHolder_instrument (s : State) (k m : InstrumentId) (htimer : (s.instrument k).holder = none →
    (s.instrument k).holdTimer = none) :
    (revokeHolder s k).instrument m = if m = k then (s.instrument k).freed else s.instrument m := by
  unfold revokeHolder
  split
  · rename_i h
    by_cases hm : m = k
    · subst hm
      rw [if_pos rfl, Instrument.freed, ← h, ← htimer h]
    · rw [if_neg hm]
  · simp [State.placeControl, State.instrument_updInstrument]

theorem revokeHolder_lane (s : State) (k : InstrumentId) (j : LaneId) :
    (revokeHolder s k).lane j =
      if (s.instrument k).holder = some j then
        { s.lane j with control := some { kind := .revoke, instrument := k } }
      else s.lane j := by
  unfold revokeHolder
  split
  · rename_i h; simp [h]
  · rename_i i h
    by_cases hj : j = i
    · subst hj; simp [h, State.placeControl]
    · simp [h, State.placeControl, State.lane_updLane, hj, Ne.symm hj]

/-- What disabling an instrument leaves of the instrument records (R153). -/
theorem disableInstrument_instrument (s : State) (k m : InstrumentId)
    (htimer : (s.instrument k).holder = none → (s.instrument k).holdTimer = none) :
    (s.disableInstrument k).instrument m =
      if m = k then
        { s.instrument k with enabled := false, holder := none, holdTimer := none, waiting := 0#16 }
      else s.instrument m := by
  rw [disableInstrument_eq, State.instrument_updInstrument, denyWaiters_instrument, denyWaiters_instrument,
    revokeHolder_instrument s k m htimer, revokeHolder_instrument s k k htimer]
  by_cases hm : m = k <;> simp [hm, Instrument.freed]

/-- The control frames a disabling places: REVOKE for the holder, DENY for every waiter (R153). -/
theorem disableInstrument_lane (s : State) (k : InstrumentId) (j : LaneId)
    (htimer : (s.instrument k).holder = none → (s.instrument k).holdTimer = none) :
    (s.disableInstrument k).lane j =
      { s.lane j with
        control :=
          if inSet (s.instrument k).waiting j then some { kind := .deny, instrument := k }
          else if (s.instrument k).holder = some j then some { kind := .revoke, instrument := k }
          else (s.lane j).control } := by
  rw [disableInstrument_eq, State.lane_updInstrument, denyWaiters_lane, revokeHolder_instrument s k k htimer,
    revokeHolder_lane, if_pos rfl, Instrument.freed]
  dsimp only
  cases inSet (s.instrument k).waiting j
  · by_cases hj : (s.instrument k).holder = some j <;> simp [hj]
  · by_cases hj : (s.instrument k).holder = some j <;> simp [hj]

theorem disableInstrument_act (s : State) (k : InstrumentId) : Act c E s (s.disableInstrument k) := by
  have harb := disableInstrument_arbitration s k
  refine .kept (harb.kept c) fun _ he ha => ?_
  have htimer := (arbiterLaw_iff.1 ha k).timer
  refine harb.arbitrated (fun _ _ j => ?_) (fun m h => ?_) he ha
  · rw [disableInstrument_lane s k j htimer]
    dsimp only
    split
    · rename_i hwait
      exact .inr (servesOwn_of_bound ((arbiterLaw_iff.1 ha k).waiting j hwait).1)
    · split
      · rename_i hholder
        exact .inr (servesOwn_of_bound ((arbiterLaw_iff.1 ha k).holder j hholder).1)
      · exact .inl rfl
  · rw [disableInstrument_instrument s k m htimer]
    split
    · subst_vars
      exact ⟨fun j hj => (by cases hj), fun j hj => (by simp [inSet] at hj), h.revoked, fun _ => rfl, fun _ => rfl⟩
    · exact h

theorem Machine.Instrument.Fair.withLimit {n : Instrument} {b : LaneId → Prop} (h : n.Fair b) (limit : Nat) :
    Instrument.Fair { n with holdLimit := limit } b :=
  ⟨h.holder, h.waiting, h.revoked, h.enabled, h.timer⟩

theorem Machine.Instrument.Fair.nowEnabled {n : Instrument} {b : LaneId → Prop} (h : n.Fair b) :
    Instrument.Fair { n with enabled := true } b :=
  ⟨h.holder, h.waiting, h.revoked, fun he => (by cases he), h.timer⟩

theorem setInstrument_acts (s : State) (k : InstrumentId) (enabled : Bool) (limit : Nat) :
    Acts c E s (s.setInstrument k enabled limit) := by
  unfold State.setInstrument
  dsimp only
  have hlimit : Acts c E s (s.updInstrument k fun n => { n with holdLimit := limit }) :=
    (updInstrument_act fun h => h.withLimit limit).acts
  refine hlimit.trans ?_
  generalize s.updInstrument k (fun n => { n with holdLimit := limit }) = u
  split
  · exact .refl c E u
  · split
    · exact (updInstrument_act fun h => h.nowEnabled).acts
    · exact (disableInstrument_act u k).acts

/-! ### Lanes under orders -/

theorem actRelay_act {s : State} {i : LaneId} (p : List Byte) (hserves : (s.lane i).state.servesOwn = true)
    (hroom : (s.lane i).txQueue.length < 8) :
    Act c E s (s.updLane i fun l => { l with txQueue := l.txQueue ++ [.passOn p] }) := by
  refine updLane_act ⟨rfl, rfl, rfl, fun _ => le_rfl⟩ (fun h => ⟨?_, h.2⟩) fun _ h =>
    ⟨h.1, fun hs => absurd (hserves.symm.trans hs) (by decide), h.2.2⟩
  rw [List.length_append]
  exact hroom

theorem pulseKey_act (s : State) (i : LaneId) (duration : Nat) : Act c E s (s.pulseKey i duration) :=
  updLane_act ⟨rfl, rfl, rfl, fun _ => le_rfl⟩ id fun _ => id

theorem actLines_acts {s : State} (a : LineArgs) (hstart : E → s.startup = false) :
    Acts c E s (s.actLines a) := by
  have hpulse : ∀ u : State, Acts c E u
      (match a.pulse with | some duration => u.pulseKey a.lane duration | none => u) := fun u => by
    split
    · exact (pulseKey_act u a.lane _).acts
    · exact .refl c E u
  unfold State.actLines
  cases a.power with
  | none => exact hpulse s
  | some level => exact (switchPower_acts fun hE _ => hstart hE).trans (hpulse _)

theorem updSettings_acts (s : State) (i : LaneId) (f : LaneSettings → LaneSettings) :
    Acts c E s (s.updSettings i f) := (updLane_act ⟨rfl, rfl, rfl, fun _ => le_rfl⟩ id fun _ => id).acts

theorem disableLane_state (s : State) (i : LaneId) : ((s.disableLane i).lane i).state = .off := by
  unfold State.disableLane
  dsimp only
  split
  · exact (depart_lane_self _ i .disabled).1
  · rw [State.lane_updLane_self]

/-! ### The six steps of a LANE-SET (R180) -/

/-- Step 1: the timing fields. -/
def laneSetTimed (a : LaneSetArgs) (s : State) : State := s.updSettings a.lane fun t => t.withTiming a

/-- Step 2: the disable. -/
def laneSetDisabled (a : LaneSetArgs) (s : State) : State :=
  if a.enable = some false ∧ (s.lane a.lane).settings.enabled = true then s.disableLane a.lane else s

/-- Steps 3 and 4: rate and reject enable. -/
def laneSetStored (a : LaneSetArgs) (s : State) : State :=
  s.updSettings a.lane fun t =>
    { t with rate := a.rate.getD t.rate, rejectEnable := a.rejectEnable.getD t.rejectEnable }

/-- Step 5: auto-power. -/
def laneSetPowered (a : LaneSetArgs) (s : State) : State :=
  match a.autoPower with
  | some level => s.setAutoPower a.lane level
  | none => s

/-- Step 6: the enable. -/
def laneSetEnabled (a : LaneSetArgs) (s : State) : State :=
  if a.enable = some true ∧ (s.lane a.lane).settings.enabled = false then s.enableLane a.lane else s

theorem setLane_eq (s : State) (a : LaneSetArgs) : s.setLane a =
    laneSetEnabled a (laneSetPowered a (laneSetStored a (laneSetDisabled a (laneSetTimed a s)))) := rfl

theorem laneSetDisabled_acts {s : State} (a : LaneSetArgs)
    (hstart : E → (s.lane a.lane).state.occupied = true → s.startup = false) :
    Acts c E s (laneSetDisabled a s)
      ∧ (E → ((laneSetDisabled a s).lane a.lane).state.occupied = true → (laneSetDisabled a s).startup = false) := by
  unfold laneSetDisabled
  split
  · refine ⟨disableLane_acts hstart, fun _ hocc => ?_⟩
    rw [disableLane_state] at hocc
    cases hocc
  · exact ⟨.refl c E s, hstart⟩

theorem laneSetPowered_acts {s : State} (a : LaneSetArgs)
    (hstart : E → (s.lane a.lane).state.occupied = true → s.startup = false) :
    Acts c E s (laneSetPowered a s) := by
  unfold laneSetPowered
  split
  · exact setAutoPower_acts hstart
  · exact .refl c E s

theorem laneSetEnabled_acts (s : State) (a : LaneSetArgs) : Acts c E s (laneSetEnabled a s) := by
  unfold laneSetEnabled
  split
  · exact enableLane_acts s a.lane
  · exact .refl c E s

theorem laneSetTimed_acts (s : State) (a : LaneSetArgs) : Acts c E s (laneSetTimed a s) :=
  updSettings_acts s a.lane _

theorem laneSetStored_acts (s : State) (a : LaneSetArgs) : Acts c E s (laneSetStored a s) :=
  updSettings_acts s a.lane _

theorem updSettings_state (s : State) (i : LaneId) (f : LaneSettings → LaneSettings) :
    ((s.updSettings i f).lane i).state = (s.lane i).state := by
  unfold State.updSettings
  rw [State.lane_updLane_self]

theorem laneSetTimed_state (s : State) (a : LaneSetArgs) :
    ((laneSetTimed a s).lane a.lane).state = (s.lane a.lane).state := updSettings_state s a.lane _

theorem laneSetStored_state (s : State) (a : LaneSetArgs) :
    ((laneSetStored a s).lane a.lane).state = (s.lane a.lane).state := updSettings_state s a.lane _

theorem laneSetTimed_startup (s : State) (a : LaneSetArgs) : (laneSetTimed a s).startup = s.startup := rfl

theorem laneSetStored_startup (s : State) (a : LaneSetArgs) : (laneSetStored a s).startup = s.startup := rfl

theorem setLane_acts {s : State} (a : LaneSetArgs)
    (hstart : E → (s.lane a.lane).state.occupied = true → s.startup = false) : Acts c E s (s.setLane a) := by
  rw [setLane_eq]
  rw [← laneSetTimed_state, ← laneSetTimed_startup s a] at hstart
  obtain ⟨hdisable, hoff⟩ := laneSetDisabled_acts (c := c) a hstart
  rw [← laneSetStored_state, ← laneSetStored_startup _ a] at hoff
  exact (laneSetTimed_acts s a).trans (hdisable.trans ((laneSetStored_acts _ a).trans
    ((laneSetPowered_acts a hoff).trans (laneSetEnabled_acts _ a))))

/-! ### RESUME, START and the board's orders -/

theorem boundElsewhere_eq_false_iff {s : State} {i : LaneId} {id : List Byte} :
    s.boundElsewhere i id = false ↔
      ∀ j, j ≠ i → (s.lane j).state = .bound → (s.lane j).identity ≠ some id := by
  simp [State.boundElsewhere, mem_laneIds]

theorem occupied_of_servesOwn {st : LaneState} (h : st.servesOwn = true) : st.occupied = true := by
  revert h
  cases st <;> decide

/-- A RESUME of a STALLED lane (R47). -/
theorem resumeLane_deed {s : State} {i : LaneId} (hstalled : (s.lane i).state = .stalled)
    (hstart : E → s.startup = false) : Deed c E s (s.resumeLane i) := by
  have hunbound : (s.lane i).state ≠ .bound := by rw [hstalled]; decide
  have hmoved : ∀ st : LaneState, st.servesOwn = true → ∀ t : AnnounceTimer,
      (st = .bound → ∀ id, (s.lane i).identity = some id → s.boundElsewhere i id = false) →
      LaneMoved E s i { (s.lane i).resumedTo st with announce := t } := by
    intro st hst t hunique
    refine ⟨hunbound, rfl, rfl, le_rfl, id, fun _ h => ?_, hunique, fun hE => .inr (hstart hE)⟩
    refine .of_occupied (occupied_of_servesOwn hst) (fun h => ?_) (h.2.2 hunbound)
    exact absurd (hst.symm.trans h) (by decide)
  unfold State.resumeLane
  split
  · exact .acts (Act.moved (hmoved .held rfl _ fun h => (by cases h))).acts
  · split
    · refine .binds (.refl c E s) (by rw [hstalled]; rfl) hunbound ?_ id hstart
      cases (s.lane i).identity <;> simp
    · rename_i helse
      refine .acts (Act.moved (hmoved .bound rfl _ fun _ id hid => ?_)).acts
      rw [hid] at helse
      simpa using helse
  · exact .acts (Act.moved (hmoved .seated rfl _ fun h => (by cases h))).acts
  · exact .acts (Act.moved (hmoved .seated rfl _ fun h => (by cases h))).acts

theorem startLane_acts {s : State} (i : LaneId) (hstart : s.startup = false) :
    Acts c E s (State.startLane s i) ∧ (State.startLane s i).startup = false := by
  unfold State.startLane
  split
  · rename_i h
    exact ⟨leaveOff_acts h.2 fun _ => hstart, by rw [leaveOff_frame]; exact hstart⟩
  · exact ⟨.refl c E s, hstart⟩

theorem foldl_startLane_acts (l : List LaneId) {s : State} (hstart : s.startup = false) :
    Acts c E s (l.foldl State.startLane s) := by
  induction l generalizing s with
  | nil => exact .refl c E s
  | cons i l ih =>
    obtain ⟨hact, hnext⟩ := startLane_acts (c := c) (E := E) i hstart
    exact hact.trans (ih hnext)

theorem startAll_acts (s : State) : Acts c E s s.startAll := by
  unfold State.startAll
  split
  · have hcleared : Act c E s { s with startup := false } :=
      .kept ⟨fun ⟨hl, hi, hu, hb, hd⟩ => ⟨hl, hi, hu, hb, hd⟩, rfl, rfl, rfl, fun h => (by cases h), fun _ => .refl c _,
        fun _ => .refl _, rfl, rfl, rfl⟩ fun _ he ha => ⟨he, ha⟩
    exact hcleared.acts.trans (foldl_startLane_acts laneIds rfl)
  · exact .refl c E s

/-- Lanes changed that stay as the laws see them, and nothing else. -/
theorem Kept.of_lanes {s t : State} (h : t = { s with lanes := t.lanes })
    (hkept : ∀ i, LaneKept c (s.lane i) (t.lane i)) (hsized : ∀ i, (s.lane i).Sized → (t.lane i).Sized) :
    Kept c s t := by
  refine ⟨fun hs => ⟨fun i => hsized i (hs.lanes i), ?_, ?_, ?_, ?_⟩, by rw [h], by rw [h], by rw [h],
    by rw [h]; exact id, hkept, fun r => ?_, by rw [h], by rw [h], by rw [h]⟩
  · rw [h]; exact hs.ingress
  · rw [h]; exact hs.urgent
  · rw [h]; exact hs.bulk
  · rw [h]; exact hs.drops
  · rw [State.record, h]; exact .refl _

/-- A set of lanes changed in items that keep every lane as the laws see it. -/
theorem updLanes_act {s : State} {set : LaneSet} {f : Lane → Lane}
    (hf : ∀ l, LaneKept c l (f l) ∧ (l.Sized → (f l).Sized) ∧ (l.Fits → (f l).Fits)) :
    Act c E s (s.updLanes set f) := by
  have hlane : ∀ i, (s.updLanes set f).lane i = s.lane i ∨ (s.updLanes set f).lane i = f (s.lane i) := fun i => by
    rw [updLanes_lane]
    split
    · exact .inr rfl
    · exact .inl rfl
  refine .kept (.of_lanes (by unfold State.updLanes; rfl) (fun i => ?_) fun i h => ?_) fun _ =>
    Arbitrated.of_each (fun i => ?_) (fun _ _ i h => ?_) fun k h => (by unfold State.updLanes; exact h)
  all_goals obtain ⟨hkept, hsized, hfits⟩ := hf (s.lane i)
  all_goals rcases hlane i with h' | h' <;> rw [h']
  · exact .refl c _
  · exact hkept
  · exact h
  · exact hsized h
  · exact hkept.state
  · exact h
  · exact hfits h

end Sys2Proof
end

section
/-! PROOFS of the laws that every step keeps, eighth part: the course of one step. -/

namespace Sys2Proof

open Sys2Proof.Machine

/-- The laws of STARTUP, engines and instruments (R33, R141). -/
def EnginesLaw (s : State) : Prop := StartupLaw s ∧ EngineLaw s ∧ ArbiterLaw s

theorem EnginesLaw.startup_of_ne_off {s : State} (h : EnginesLaw s) {i : LaneId} (hi : (s.lane i).state ≠ .off) :
    s.startup = false := by
  cases hs : s.startup with
  | false => rfl
  | true => exact absurd (h.1 hs i) hi

theorem EnginesLaw.startup_of_occupied {s : State} (h : EnginesLaw s) {i : LaneId}
    (hi : (s.lane i).state.occupied = true) : s.startup = false :=
  h.startup_of_ne_off fun hoff => by rw [hoff] at hi; cases hi

/-! ### Orders between their taking and their ANSWER -/

section
variable {α : Type}

theorem checked_eq_ok_iff {check : State → Order → Except RefusalCode α} {s : State} {o : Order} {a : α} :
    checked check s o = .ok a ↔ o.truncated = false ∧ check s o = .ok a := by
  unfold checked
  cases o.truncated <;> simp

theorem notInStartup_eq_ok_iff {s : State} {rest : Except RefusalCode α} {a : α} :
    notInStartup s rest = .ok a ↔ s.startup = false ∧ rest = .ok a := by
  unfold notInStartup
  cases s.startup <;> simp

theorem beaconBeforeAnswer_mayEnter (u : State) (wasDue : Bool) : BeaconMayEnter u (u.beaconBeforeAnswer wasDue) := by
  rcases beaconBeforeAnswer_cases u wasDue with ⟨-, -, -, h⟩ | ⟨-, h⟩ <;> rw [h]
  · split
    · exact ⟨_, .inr rfl⟩
    · exact ⟨_, .inl rfl⟩
  · exact ⟨u.choices, .inl rfl⟩

/-- `serve_cases` with the part as the order is taken. -/
theorem serve_taken_cases (s : State) (mine : Order → Bool) (check : State → Order → Except RefusalCode α)
    (act : α → State → State × AnswerBody) :
    s.serve mine check act = s
      ∨ ∃ o rest, s.ingress = o :: rest ∧ urgentTaken s < 32 ∧ mine o = true
        ∧ ((∃ code, s.serve mine check act = (s.taken o rest).finishOrder o (.refused code))
          ∨ ∃ a, check (s.taken o rest) o = .ok a ∧ s.serve mine check act =
            ((act a (s.taken o rest)).1.beaconBeforeAnswer s.beaconDue).finishOrder o (act a (s.taken o rest)).2) := by
  rcases serve_cases s mine check act with h | ⟨o, rest, s1, hin, -, hroom, hmine, rfl, h⟩
  · exact .inl h
  · refine .inr ⟨o, rest, hin, hroom, hmine, ?_⟩
    rcases h with ⟨code, -, h⟩ | ⟨a, hcheck, h⟩
    · exact .inl ⟨code, h⟩
    · exact .inr ⟨a, (checked_eq_ok_iff.1 hcheck).2, h⟩

/-- An order other than STEP, from what its action does. -/
theorem serve_course {i : Instr} (hi : i ≠ .step) (s : State) {mine : Order → Bool}
    {check : State → Order → Except RefusalCode α} {act : α → State → State × AnswerBody}
    (hact : ∀ o rest a, mine o = true → check (s.taken o rest) o = .ok a →
      Deed (some i) (EnginesLaw s) (s.taken o rest) (act a (s.taken o rest)).1) :
    Course (some i) (EnginesLaw s) s (s.serve mine check act) := by
  rcases serve_taken_cases s mine check act with h | ⟨o, rest, hin, hroom, hmine, h⟩
  · rw [h]
    exact .deed (.acts (.refl _ _ s)) fun _ => rfl
  · rcases h with ⟨code, h⟩ | ⟨a, hcheck, h⟩ <;> rw [h]
    · exact .answered hin hroom (.acts (.refl _ _ (s.taken o rest))) ⟨_, .inl rfl⟩ fun _ => ⟨code, rfl⟩
    · exact .answered hin hroom (hact o rest a hmine hcheck)
        (beaconBeforeAnswer_mayEnter _ _) fun hstep => absurd (Option.some.inj hstep) hi

end

theorem checkStep_ok {s : State} {o : Order} {a : StepArgs} (h : checkStep s o = .ok a) :
    s.startup = false ∧ a.stepId = halfAt o.body 0 ∧ a.stepId ≠ 0#16 ∧ s.idInUse a.stepId = false
      ∧ s.freeOrder ≠ [] := by
  obtain ⟨hstart, h⟩ := notInStartup_eq_ok_iff.1 h
  refine ⟨hstart, ?_⟩
  cases hparse : parseStep o.body with
  | error code => rw [hparse] at h; cases h
  | ok b =>
    rw [hparse] at h
    dsimp only at h
    split at h
    · cases h
    · split at h
      · cases h
      · cases h
        rename_i hroom hnew
        have hid : a.stepId = halfAt o.body 0 ∧ halfAt o.body 0 ≠ 0#16 := by
          unfold parseStep at hparse
          split at hparse
          · cases hparse
          · split at hparse
            · cases hparse
            · rename_i hvalues
              cases hparse
              exact ⟨rfl, fun h0 => hvalues (.inl h0)⟩
        exact ⟨hid.1, hid.1 ▸ hid.2, by simpa using hnew, hroom⟩

theorem actStep_of_cons {s : State} {r : RecordId} {free : List RecordId} (h : s.freeOrder = r :: free) (a : StepArgs) :
    actStep a s =
      ((s.takeStepInto r a).closingCheck r,
        .okStep a.deadline (laneSetOf ((s.takeStepInto r a).record r).isMember)
          (((s.takeStepInto r a).record r).withOutcome .pending) (((s.takeStepInto r a).record r).withOutcome .skipped)
          (((s.takeStepInto r a).record r).withOutcome .overrun)) := by
  unfold actStep
  rw [h]

theorem step_serve_course (s : State) :
    Course (some .step) (EnginesLaw s) s (s.serve (fun o => o.isKind .step) checkStep actStep) := by
  rcases serve_taken_cases s (fun o => o.isKind .step) checkStep actStep with h | ⟨o, rest, hin, hroom, -, h⟩
  · rw [h]
    exact .deed (.acts (.refl _ _ s)) fun _ => rfl
  · rcases h with ⟨code, h⟩ | ⟨a, hcheck, h⟩
    · rw [h]
      exact .answered hin hroom (.acts (.refl _ _ (s.taken o rest))) ⟨_, .inl rfl⟩ fun _ => ⟨code, rfl⟩
    · obtain ⟨hstart, hid, hne, hnew, hfree⟩ := checkStep_ok hcheck
      obtain ⟨r, free, hlist⟩ := List.exists_cons_of_ne_nil hfree
      rw [h, actStep_of_cons (show (s.taken o rest).freeOrder = r :: free from hlist)]
      exact .stepTaken rfl hin hroom hstart hid hne hnew hlist (beaconBeforeAnswer_mayEnter _ _)

theorem checkRelay_ok {s : State} {o : Order} {a : LaneId × List Byte} (h : checkRelay s o = .ok a) :
    (s.lane a.1).state.servesOwn = true ∧ (s.lane a.1).txQueue.length < 8 := by
  obtain ⟨-, h⟩ := notInStartup_eq_ok_iff.1 h
  split at h
  · cases h
  · split at h
    · cases h
    · split at h
      · cases h
      · cases h
        rename_i hserves hroom
        exact ⟨by simpa using hserves, Nat.not_le.1 hroom⟩

theorem checkResume_ok {s : State} {o : Order} {i : LaneId} (h : checkResume s o = .ok i) :
    s.startup = false ∧ (s.lane i).state = .stalled := by
  obtain ⟨hstart, h⟩ := notInStartup_eq_ok_iff.1 h
  split at h
  · cases h
  · split at h
    · cases h
      exact ⟨hstart, ‹_›⟩
    · cases h

theorem checkAbort_ok {s : State} {o : Order} {r : RecordId} (h : checkAbort s o = .ok r) :
    (s.record r).state = .opened := by
  unfold checkAbort at h
  split at h
  · cases h
  · split at h
    · cases h
    · cases h
      rename_i hfind
      unfold State.openRecord at hfind
      have hfound := List.find?_some hfind
      exact (of_decide_eq_true hfound).1

/-! ### Every command -/

variable {s : State}

theorem Course.of_acts {i : Instr} (hi : i ≠ .step) {t : State} (h : Acts (some i) (EnginesLaw s) s t) :
    Course (some i) (EnginesLaw s) s t := .deed (.acts h) fun hstep => absurd (Option.some.inj hstep) hi

theorem Course.of_act {i : Instr} (hi : i ≠ .step) {t : State} (h : Act (some i) (EnginesLaw s) s t) :
    Course (some i) (EnginesLaw s) s t := .of_acts hi h.acts

theorem Course.of_besides {i : Instr} (hi : i ≠ .step) {t : State} (h : Besides s t) :
    Course (some i) (EnginesLaw s) s t := .of_act hi (h.act _ _)

/-- A frame dispatched, from what its destination does. -/
theorem dispatch_course {i : Instr} (hi : i ≠ .step) (s : State) {mine : RxFrame → Bool}
    {act : LaneId → RxFrame → State → State}
    (hact : ∀ j f, (s.lane j).rxBuffer ≠ [] →
      Deed (some i) (EnginesLaw s) s (act j f (s.dispatched j))) :
    Course (some i) (EnginesLaw s) s (s.dispatch mine act) := by
  rcases dispatch_cases s mine act with h | ⟨j, f, hbuf, -, h⟩ <;> rw [h]
  · exact .of_acts hi (.refl _ _ s)
  · exact .deed (hact j f hbuf) fun hstep => absurd (Option.some.inj hstep) hi

/-! ### What the actions of the remaining orders do -/

section
variable {c : Option Instr} {E : Prop}

theorem abort_act {s : State} {r : RecordId} (h : (s.record r).state = .opened) :
    Act c E s (s.endStep r .aborted .aborted) := Act.ended (o := .aborted) h rfl

theorem extend_act (s : State) (r : RecordId) (left : Nat) :
    Act c E s (s.updRecord r fun n => { n with deadline := some left }) := updRecord_act ⟨rfl, rfl, fun _ => rfl⟩

theorem setBeacon_act (s : State) (interval : Nat) (mask : BitVec 9) (sel : Selection) :
    Act c E s (s.setBeacon interval mask sel) := by
  refine Besides.act ?_ c E
  unfold State.setBeacon
  dsimp only
  split
  · rw [Besides, requestEarly_frame]
  · rfl

theorem loadLimits_act (s : State) (a : TableArgs) : Act c E s (s.loadLimits a) :=
  Besides.act (by unfold State.loadLimits; rfl) c E

theorem loadGroups_act (s : State) (a : TableArgs) : Act c E s (s.loadGroups a) :=
  Besides.act (by unfold State.loadGroups; rfl) c E

theorem clearVerdict_act (s : State) (set : LaneSet) :
    Act (some .clearVerdict) E s (s.updLanes set fun l => { l with board := l.board.emptied }) := by
  refine updLanes_act fun l => ⟨⟨rfl, rfl, rfl, fun h => absurd rfl h⟩, fun h => ?_, id⟩
  obtain ⟨htx, hmarks, hrx, hout, hdup, hbind, -⟩ := h
  exact ⟨htx, hmarks, hrx, hout, hdup, hbind, Nat.zero_le _, Nat.zero_le _, Nat.zero_le _⟩

theorem unlatch_act (s : State) (set : LaneSet) :
    Act c E s (s.updLanes set fun l => { l with board := { l.board with latch := false } }) :=
  updLanes_act fun _ => ⟨⟨rfl, rfl, rfl, fun _ => le_rfl⟩, id, id⟩

theorem clearFlags_act (s : State) (set : LaneSet) :
    Act c E s (s.updLanes set fun l => { l with flags := 0#12, dupCount := 0 }) := by
  refine updLanes_act fun l => ⟨⟨rfl, rfl, rfl, fun _ => le_rfl⟩, fun h => ?_, id⟩
  obtain ⟨htx, hmarks, hrx, hout, -, hrest⟩ := h
  exact ⟨htx, hmarks, hrx, hout, Nat.zero_le _, hrest⟩

end

theorem reset_course (s : State) (straps : BitVec 4) :
    ∃ t, exec (.reset straps) s = .next t ∧ Course (some (.reset straps)) (EnginesLaw s) s t := by
  have hne : some (Instr.reset straps) ≠ some .step := by simp
  refine ⟨_, rfl, ?_⟩
  rcases takeOrder_cases s fun o => o.isKind .reset with ⟨o, rest, hin, -, hroom, -, h⟩ | h <;> rw [h]
  · dsimp only
    split
    · exact .answered hin hroom (.acts (.refl _ _ (s.taken o rest))) ⟨_, .inl rfl⟩ fun hstep => absurd hstep hne
    · exact .reset rfl
  · exact .deed (.acts (.refl _ _ s)) fun hstep => absurd hstep hne

/-- The orders. -/
theorem order_course (s : State) (i : Instr) (hi : orderCommand i = true) :
    ∃ t, exec i s = .next t ∧ Course (some i) (EnginesLaw s) s t := by
  cases i with
  | step => exact ⟨_, rfl, step_serve_course s⟩
  | abort =>
    refine ⟨_, rfl, serve_course (by decide) s fun o rest r _ h => ?_⟩
    have hopen := checkAbort_ok h
    generalize s.taken o rest = u at hopen ⊢
    have hact := abort_act (c := some .abort) (E := EnginesLaw s) hopen
    unfold actAbort
    dsimp only
    exact .acts hact.acts
  | extend => exact ⟨_, rfl, serve_course (by decide) s fun o rest a _ _ => .acts (extend_act _ a.1 a.2).acts⟩
  | relay =>
    exact ⟨_, rfl, serve_course (by decide) s fun o rest a _ h =>
      .acts (actRelay_act a.2 (checkRelay_ok h).1 (checkRelay_ok h).2).acts⟩
  | line =>
    exact ⟨_, rfl, serve_course (by decide) s fun o rest a _ h =>
      .acts (actLines_acts a fun _ => (notInStartup_eq_ok_iff.1 h).1)⟩
  | laneSet =>
    exact ⟨_, rfl, serve_course (by decide) s fun o rest a _ _ =>
      .acts (setLane_acts a fun hE hocc => hE.startup_of_occupied (i := a.lane) hocc)⟩
  | instrumentSet =>
    exact ⟨_, rfl, serve_course (by decide) s fun o rest a _ _ => .acts (setInstrument_acts _ a.1 a.2.1 a.2.2)⟩
  | beaconSet =>
    exact ⟨_, rfl, serve_course (by decide) s fun o rest a _ _ => .acts (setBeacon_act _ a.1 a.2.1 a.2.2).acts⟩
  | loadLimit => exact ⟨_, rfl, serve_course (by decide) s fun o rest a _ _ => .acts (loadLimits_act _ a).acts⟩
  | loadGroup => exact ⟨_, rfl, serve_course (by decide) s fun o rest a _ _ => .acts (loadGroups_act _ a).acts⟩
  | readLimit => exact ⟨_, rfl, serve_course (by decide) s fun o rest a _ _ => .acts (.refl _ _ _)⟩
  | readGroup => exact ⟨_, rfl, serve_course (by decide) s fun o rest a _ _ => .acts (.refl _ _ _)⟩
  | readRoster => exact ⟨_, rfl, serve_course (by decide) s fun o rest a _ _ => .acts (.refl _ _ _)⟩
  | readBoard => exact ⟨_, rfl, serve_course (by decide) s fun o rest a _ _ => .acts (.refl _ _ _)⟩
  | clearVerdict => exact ⟨_, rfl, serve_course (by decide) s fun o rest a _ _ => .acts (clearVerdict_act _ a).acts⟩
  | unlatch => exact ⟨_, rfl, serve_course (by decide) s fun o rest a _ _ => .acts (unlatch_act _ a).acts⟩
  | clearFlags => exact ⟨_, rfl, serve_course (by decide) s fun o rest a _ _ => .acts (clearFlags_act _ a).acts⟩
  | resume =>
    exact ⟨_, rfl, serve_course (by decide) s fun o rest i _ h =>
      resumeLane_deed (checkResume_ok h).2 fun _ => (checkResume_ok h).1⟩
  | start => exact ⟨_, rfl, serve_course (by decide) s fun o rest a _ _ => .acts (startAll_acts _)⟩
  | unknownOrderKind => exact ⟨_, rfl, serve_course (by decide) s fun o rest a _ h => (by cases h)⟩
  | reset straps => exact reset_course s straps
  | _ => cases hi

/-! ### The other commands -/

theorem uplinkFrame_acts {c : Option Instr} {E : Prop} (s : State) (f : List Byte) (rxError : Bool) : Acts c E s
    (if s.linkUp then (if frameDamaged f rxError then s.countDamaged else s.takeUplinkFrame f) else s) := by
  split
  · split
    · exact (countDamaged_act s).acts
    · exact takeUplinkFrame_acts s f
  · exact .refl c E s

theorem pause_acts {c : Option Instr} {E : Prop} (s : State) (f : List Byte) (rxError : Bool) : Acts c E s
    (if s.linkUp then
      (if frameDamaged f rxError then s.countDamaged
        else if isPauseFrame s.station f then s.holdBulk (pauseQuanta f) else s)
    else s) := by
  split
  · split
    · exact (countDamaged_act s).acts
    · split
      · exact (holdBulk_act s _).acts
      · exact .refl c E s
  · exact .refl c E s

theorem bulkHoldOut_besides (s : State) : Besides s s.bulkHoldOut := by
  unfold State.bulkHoldOut
  split <;> rfl

theorem intervalOut_besides (s : State) :
    Besides s (if s.intervalTimer = some 0 then s.beaconFallsDue else s) := by
  split <;> rfl

theorem spacingOut_besides (s : State) : Besides s s.spacingOut := by
  unfold State.spacingOut
  split
  · dsimp only
    split <;> rfl
  · rfl

theorem deadlineOut_acts {c : Option Instr} {E : Prop} (s : State) (r : RecordId) : Acts c E s (s.deadlineOut r) := by
  unfold State.deadlineOut
  split
  · rename_i h
    exact (Act.ended (o := .expired) h.1 rfl).acts
  · exact .refl c E s

/-- A lane with a frame in its buffer holds a phone, and serves own frames unless it is STALLED (R25, R28). -/
theorem EnginesLaw.occupied_of_rxBuffer {s : State} (h : EnginesLaw s) {i : LaneId} (hi : (s.lane i).rxBuffer ≠ []) :
    (s.lane i).state.occupied = true := by
  cases hocc : (s.lane i).state.occupied with
  | true => rfl
  | false => exact absurd ((h.2.1 i).1 hocc).2 hi

theorem servesOwn_of_occupied {st : LaneState} (h : st.occupied = true) (hne : st ≠ .stalled) :
    st.servesOwn = true := by
  revert h hne
  cases st <;> decide

/-- The commands of lane engines and pockets. -/
def laneCommand : Instr → Bool
  | .laneCharacter _ _ _ | .gapTimeout _ | .laneFrameReceived _ _ | .mark _ _ _ _ _ | .sendMark _ | .sendNewFrame _
  | .sendResend _ | .lastByteOut _ | .markWindowExpiry _ | .retryPauseExpiry _ | .seatChange _ _
  | .debounceExpiry _ | .announceExpiry _ | .keyPulseExpiry _ => true
  | _ => false

theorem laneCommand_course (s : State) (i : Instr) (hi : laneCommand i = true) :
    ∃ t, exec i s = .next t ∧ Course (some i) (EnginesLaw s) s t := by
  have hocc : ∀ {j : LaneId}, (s.lane j).state.occupied = true → EnginesLaw s → s.startup = false :=
    fun h hE => hE.startup_of_occupied h
  cases i with
  | laneCharacter j char low => exact ⟨_, rfl, .of_acts (by simp) (receiveCharacter_acts char low hocc)⟩
  | gapTimeout j => exact ⟨_, rfl, .of_acts (by simp) (gapTimeout_acts s j)⟩
  | laneFrameReceived j f => exact ⟨_, rfl, .of_acts (by simp) (receiveFrame_acts f hocc)⟩
  | mark j framing seq payload check => exact ⟨_, rfl, .of_acts (by simp) (receiveFrame_acts _ hocc)⟩
  | sendMark j => exact ⟨_, rfl, .of_act (by simp) (sendMark_act s j)⟩
  | sendNewFrame j => exact ⟨_, rfl, .of_act (by simp) (startNew_act s j)⟩
  | sendResend j => exact ⟨_, rfl, .of_act (by simp) (startResend_act s j)⟩
  | lastByteOut j => exact ⟨_, rfl, .of_act (by simp) (lastByteOut_act s j)⟩
  | markWindowExpiry j =>
    exact ⟨_, rfl, .of_acts (by simp) (markWindowOut_acts fun f hf hE =>
      hocc (occupied_of_servesOwn (not_servesOwn_of (hE.2.1 j) hf)) hE)⟩
  | retryPauseExpiry j => exact ⟨_, rfl, .of_act (by simp) (retryPauseOut_act s j)⟩
  | seatChange j level =>
    exact ⟨_, rfl, .of_act (by simp) (updLane_act ⟨rfl, rfl, rfl, fun _ => le_rfl⟩ id fun _ => id)⟩
  | debounceExpiry j => exact ⟨_, rfl, .of_acts (by simp) (debounceOut_acts fun hE => hE.startup_of_ne_off)⟩
  | announceExpiry j => exact ⟨_, rfl, .of_acts (by simp) (announceOut_acts s j)⟩
  | keyPulseExpiry j => exact ⟨_, rfl, .of_act (by simp) (keyPulseOut_act s j)⟩
  | _ => cases hi

/-- The commands of the dispatcher's destinations. -/
def dispatchCommand : Instr → Bool
  | .hello | .result | .text | .claim | .release => true
  | _ => false

theorem dispatchCommand_course (s : State) (i : Instr) (hi : dispatchCommand i = true) :
    ∃ t, exec i s = .next t ∧ Course (some i) (EnginesLaw s) s t := by
  cases i with
  | hello =>
    refine ⟨_, rfl, dispatch_course (by decide) s fun j f hbuf => takeHello_deed f (dispatched_acts s j) ?_ ?_⟩
    · rw [dispatched_lane]
    · exact fun _ hE => hE.startup_of_occupied (hE.occupied_of_rxBuffer hbuf)
  | result =>
    exact ⟨_, rfl, dispatch_course (by decide) s fun j f _ =>
      .acts ((dispatched_acts s j).trans (takeResult_acts _ j f))⟩
  | text =>
    exact ⟨_, rfl, dispatch_course (by decide) s fun j f _ =>
      .acts ((dispatched_acts s j).trans (offerBulk_act _ rfl).acts)⟩
  | claim =>
    refine ⟨_, rfl, dispatch_course (by decide) s fun j f hbuf =>
      .acts ((dispatched_acts s j).trans (takeClaim_acts (fun hE hne => ?_) f))⟩
    rw [dispatched_lane] at hne ⊢
    exact servesOwn_of_occupied (hE.occupied_of_rxBuffer hbuf) hne
  | release =>
    exact ⟨_, rfl, dispatch_course (by decide) s fun j f _ =>
      .acts ((dispatched_acts s j).trans (takeRelease_acts _ j f))⟩
  | _ => cases hi

theorem exec_course (i : Instr) (s : State) : ∃ t, exec i s = .next t ∧ Course (some i) (EnginesLaw s) s t := by
  cases i with
  | step | abort | extend | relay | line | laneSet | instrumentSet | beaconSet | loadLimit | loadGroup | readLimit
  | readGroup | readRoster | readBoard | clearVerdict | unlatch | clearFlags | resume | start | reset
  | unknownOrderKind => exact order_course s _ rfl
  | laneCharacter | gapTimeout | laneFrameReceived | mark | sendMark | sendNewFrame | sendResend | lastByteOut
  | markWindowExpiry | retryPauseExpiry | seatChange | debounceExpiry | announceExpiry | keyPulseExpiry =>
    exact laneCommand_course s _ rfl
  | hello | result | text | claim | release => exact dispatchCommand_course s _ rfl
  | powerOn straps seats => exact ⟨_, rfl, .poweredOn rfl⟩
  | linkUp => exact ⟨_, rfl, .of_besides (by decide) rfl⟩
  | linkDown => exact ⟨_, rfl, .of_besides (by decide) rfl⟩
  | uplinkFrame f rxError => exact ⟨_, rfl, .of_acts (by simp) (uplinkFrame_acts s f rxError)⟩
  | pause f rxError => exact ⟨_, rfl, .of_acts (by simp) (pause_acts s f rxError)⟩
  | bulkHoldExpiry => exact ⟨_, rfl, .of_besides (by decide) (bulkHoldOut_besides s)⟩
  | reportFrameStart => exact ⟨_, rfl, .report⟩
  | summaryEnqueue => exact ⟨_, rfl, .of_act (by decide) .summary⟩
  | holdExpiry k => exact ⟨_, rfl, .of_acts (by simp) (holdOut_acts s k)⟩
  | deadlineExpiry r => exact ⟨_, rfl, .of_acts (by simp) (deadlineOut_acts s r)⟩
  | intervalExpiry => exact ⟨_, rfl, .of_besides (by decide) (intervalOut_besides s)⟩
  | spacingExpiry => exact ⟨_, rfl, .of_besides (by decide) (spacingOut_besides s)⟩
  | beaconEntry => exact ⟨_, rfl, .beacon⟩

/-- What a step does: one millisecond, or the course of the command it takes. -/
theorem step_course {s t : State} (h : step s = .next t) :
    Course s.pending.head? (EnginesLaw s) { s with pending := s.pending.tail } t := by
  unfold step at h
  cases hp : s.pending with
  | nil =>
    rw [hp] at h
    cases h
    have hs : ({ s with pending := List.tail [] } : State) = s := by
      show ({ s with pending := [] } : State) = s
      rw [← hp]
    rw [hs]
    exact .deed (.acts (passMs_act s).acts) fun hstep => (by cases hstep)
  | cons i rest =>
    rw [hp] at h
    obtain ⟨u, hu, hcourse⟩ := exec_course i { s with pending := rest }
    obtain rfl : u = t := Host.Outcome.next.inj (hu.symm.trans h)
    exact hcourse

end Sys2Proof
end

section
/-! PROOFS of the laws that every step keeps, ninth part: what each kind of act does to lanes and queues, and the laws
of capacities, identities, engines and instruments. -/

namespace Sys2Proof

open Sys2Proof.Machine

variable {c : Option Instr} {E : Prop}

/-! ### What the step unit does to lanes and bulk egress -/

/-- The step unit takes entries and unsent DO frames from lanes and changes nothing else of them, and bulk egress keeps
to its size. -/
structure StepWork (s t : State) : Prop where
  frame : StepFrame s t
  bulk : s.bulk.length ≤ 64 → t.bulk.length ≤ 64
  lanes : ∀ j, ∃ out q, out.Sublist (s.lane j).outstanding ∧ q.Sublist (s.lane j).txQueue
    ∧ t.lane j = { s.lane j with outstanding := out, txQueue := q }

theorem StepWork.refl (s : State) : StepWork s s :=
  ⟨.refl s, id, fun _ => ⟨_, _, .refl _, .refl _, rfl⟩⟩

theorem StepWork.trans {s t u : State} (h : StepWork s t) (g : StepWork t u) : StepWork s u := by
  refine ⟨h.frame.trans g.frame, g.bulk ∘ h.bulk, fun j => ?_⟩
  obtain ⟨out, q, hout, hq, hj⟩ := h.lanes j
  obtain ⟨out', q', hout', hq', hj'⟩ := g.lanes j
  rw [hj] at hout' hq'
  exact ⟨out', q', hout'.trans hout, hq'.trans hq, by rw [hj', hj]⟩

/-- The step unit's work that leaves the lanes alone. -/
theorem StepWork.of_lanes {s t : State} (hframe : StepFrame s t) (hlane : ∀ j, t.lane j = s.lane j)
    (hbulk : s.bulk.length ≤ 64 → t.bulk.length ≤ 64) : StepWork s t :=
  ⟨hframe, hbulk, fun j => ⟨_, _, .refl _, .refl _, hlane j⟩⟩

theorem enterSummary_work (s : State) : StepWork s s.enterSummary := by
  refine .of_lanes (enterSummary_frame s) (enterSummary_lane s) fun h => ?_
  rcases enterSummary_cases s with ⟨r, rest, -, hroom, hs⟩ | ⟨-, hs⟩ <;> rw [hs]
  · show (s.bulk ++ [_]).length ≤ 64
    rw [List.length_append]
    exact hroom
  · exact h

theorem closeStep_work (s : State) (r : RecordId) (cause : CloseCause) : StepWork s (s.closeStep r cause) := by
  refine .of_lanes (closeStep_frame s r cause) (closeStep_lane s r cause) fun h => ?_
  have hlists := closeStep_lists s r cause
  split at hlists
  · rename_i hroom
    rw [hlists.2.2, List.length_append]
    exact hroom.2
  · rw [hlists.2.2]
    exact h

theorem closingCheck_work (s : State) (r : RecordId) : StepWork s (s.closingCheck r) := by
  unfold State.closingCheck
  split
  · exact closeStep_work s r _
  · exact .refl s

theorem setOutcome_work (s : State) (r : RecordId) (i : LaneId) (o : MemberOutcome) :
    StepWork s (s.setOutcome r i o) := by
  refine .of_lanes (setOutcome_frame s r i o) (fun j => setOutcome_lane s r i j o) fun h => ?_
  unfold State.setOutcome
  split <;> exact h

theorem updLane_work {s : State} {i : LaneId} {f : Lane → Lane}
    (hf : ∃ out q, out.Sublist (s.lane i).outstanding ∧ q.Sublist (s.lane i).txQueue
      ∧ f (s.lane i) = { s.lane i with outstanding := out, txQueue := q }) : StepWork s (s.updLane i f) := by
  refine ⟨rfl, id, fun j => ?_⟩
  rw [State.lane_updLane]
  split
  · subst_vars; exact hf
  · exact ⟨_, _, .refl _, .refl _, rfl⟩

theorem dropEntry_work (s : State) (i : LaneId) (r : RecordId) : StepWork s (s.updLane i fun l => l.dropEntry r) :=
  updLane_work ⟨_, _, List.filter_sublist, .refl _, rfl⟩

theorem loseEntry_work (i : LaneId) (o : MemberOutcome) (s : State) (e : OutEntry) :
    StepWork s (State.loseEntry i o s e) :=
  (setOutcome_work s e.record i o).trans ((dropEntry_work _ i e.record).trans (closingCheck_work _ e.record))

theorem loseEntries_work (s : State) (i : LaneId) (o : MemberOutcome) : StepWork s (s.loseEntries i o) :=
  foldl_keeps StepWork.refl StepWork.trans (loseEntry_work i o) _ s

theorem endOwing_work (r : RecordId) (o : MemberOutcome) (s : State) (i : LaneId) :
    StepWork s (State.endOwing r o s i) := by
  unfold State.endOwing
  split
  · exact (setOutcome_work s r i o).trans (dropEntry_work _ i r)
  · exact .refl s

theorem removeUnsent_work (r : RecordId) (s : State) (i : LaneId) : StepWork s (State.removeUnsent r s i) := by
  unfold State.removeUnsent
  split
  · exact updLane_work ⟨_, _, .refl _, List.filter_sublist, rfl⟩
  · exact .refl s

theorem endStep_work (s : State) (r : RecordId) (o : MemberOutcome) (cause : CloseCause) :
    StepWork s (s.endStep r o cause) :=
  ((foldl_keeps StepWork.refl StepWork.trans (endOwing_work r o) laneIds s).trans
    (foldl_keeps StepWork.refl StepWork.trans (removeUnsent_work r) laneIds _)).trans (closeStep_work _ r cause)

theorem StepWork.capacity {s t : State} (h : StepWork s t) (hs : CapacityLaw s) : CapacityLaw t := by
  have hframe := h.frame
  refine ⟨fun j => ?_, by rw [hframe]; exact hs.ingress, by rw [hframe]; exact hs.urgent, h.bulk hs.bulk,
    by rw [hframe]; exact hs.drops⟩
  obtain ⟨out, q, hout, hq, hj⟩ := h.lanes j
  obtain ⟨htx, hmarks, hrx, hlen, hrest⟩ := hs.lanes j
  rw [hj]
  exact ⟨hq.length_le.trans htx, hmarks, hrx, hout.length_le.trans hlen, hrest⟩

theorem Machine.Lane.Fits.sublist {l : Lane} (h : l.Fits) {out : List OutEntry} {q : List QueuedFrame}
    (hout : out.Sublist l.outstanding) (hq : q.Sublist l.txQueue) :
    Lane.Fits { l with outstanding := out, txQueue := q } := by
  refine ⟨h.1, fun hs => ?_, fun hs => ?_⟩
  · obtain ⟨hflight, hcontrol, htx⟩ := h.2.1 hs
    rw [htx] at hq
    exact ⟨hflight, hcontrol, List.sublist_nil.1 hq⟩
  · rw [h.2.2 hs] at hout
    exact List.sublist_nil.1 hout

/-! ### What the loss of a lane does -/

theorem loseInstrument_control (i : LaneId) (s : State) (k : InstrumentId) (j : LaneId) :
    ∃ x, (State.loseInstrument i s k).lane j = { s.lane j with control := x } := by
  unfold State.loseInstrument
  dsimp only
  rw [State.lane_updInstrument]
  split
  · rw [(chooseNext_spec _ k).2.2.1 j, reportInstrument_lane, State.lane_updInstrument]
    split
    · exact ⟨_, rfl⟩
    · exact ⟨_, rfl⟩
  · exact ⟨_, rfl⟩

theorem loseInstruments_control (s : State) (i j : LaneId) :
    ∃ x, (s.loseInstruments i).lane j = { s.lane j with control := x } := by
  unfold State.loseInstruments
  refine foldl_keeps (R := fun u v => ∃ x, v.lane j = { u.lane j with control := x }) (fun u => ⟨_, rfl⟩)
    (fun ⟨x, hx⟩ ⟨y, hy⟩ => ⟨y, by rw [hy, hx]⟩) (fun u k => loseInstrument_control i u k j) _ s

/-- The part after the loss of a lane, before the lane takes its last items. -/
def afterLane (s : State) (i : LaneId) (o : MemberOutcome) (g : Lane → Lane) : State :=
  ((s.loseEntries i o).updLane i g).loseInstruments i

theorem afterLane_frame (s : State) (i : LaneId) (o : MemberOutcome) (g : Lane → Lane) :
    RosterFrame s (afterLane s i o g) :=
  (loseEntries_frame s i o).roster.trans ((updLane_frame _ i g).trans (loseInstruments_frame _ i).roster)

theorem lost_lane_self (s : State) (i : LaneId) (o : MemberOutcome) (g h : Lane → Lane) :
    ∃ x, ((afterLane s i o g).updLane i h).lane i =
      h { g { s.lane i with outstanding := [] } with control := x } := by
  obtain ⟨x, hx⟩ := loseInstruments_control ((s.loseEntries i o).updLane i g) i i
  refine ⟨x, ?_⟩
  rw [State.lane_updLane_self, afterLane, hx, State.lane_updLane_self, loseEntries_lane, if_pos rfl]

theorem lost_lane_of_ne (s : State) {i j : LaneId} (o : MemberOutcome) (g h : Lane → Lane) (hj : j ≠ i) :
    ∃ x, ((afterLane s i o g).updLane i h).lane j = { s.lane j with control := x } := by
  obtain ⟨x, hx⟩ := loseInstruments_control ((s.loseEntries i o).updLane i g) i j
  refine ⟨x, ?_⟩
  rw [State.lane_updLane_of_ne _ _ hj, afterLane, hx, State.lane_updLane_of_ne _ _ hj, loseEntries_lane, if_neg hj]

/-- A loss offers no BEACON. -/
theorem afterLane_offered (s : State) (i : LaneId) (o : MemberOutcome) (g : Lane → Lane) :
    ∃ l, beaconBits l = [] ∧ UrgentOffered s (afterLane s i o g) l := by
  obtain ⟨l, hl, hoffered⟩ := (loseInstruments_arbitration ((s.loseEntries i o).updLane i g) i).reports
  refine ⟨l, hl, ?_⟩
  have hframe : StepFrame s ((s.loseEntries i o).updLane i g) := (loseEntries_frame s i o).trans (by rfl)
  exact hoffered.of_stepFrame_left hframe

theorem afterLane_bulk (s : State) (i : LaneId) (o : MemberOutcome) (g : Lane → Lane) :
    (afterLane s i o g).bulk = (s.loseEntries i o).bulk := by
  rw [afterLane, loseInstruments_frame]
  rfl

/-! ### Capacities (O57) -/

theorem lost_capacity {s : State} {i : LaneId} {o : MemberOutcome} {g h : Lane → Lane} (hlost : LaneLost E s i g h)
    (hs : CapacityLaw s) : CapacityLaw ((afterLane s i o g).updLane i h) := by
  have hframe := afterLane_frame s i o g
  obtain ⟨l, -, hoffered⟩ := afterLane_offered s i o g
  have hbulk64 : (afterLane s i o g).bulk.length ≤ 64 := by
    rw [afterLane_bulk]; exact (loseEntries_work s i o).bulk hs.bulk
  have hlanes : ∀ j, (((afterLane s i o g).updLane i h).lane j).Sized := fun j => by
    by_cases hj : j = i
    · subst hj
      obtain ⟨x, hx⟩ := lost_lane_self s j o g h
      rw [hx]
      exact hlost.sizes x (hs.lanes j)
    · obtain ⟨x, hx⟩ := lost_lane_of_ne s o g h hj
      rw [hx]
      exact hs.lanes j
  generalize afterLane s i o g = v at *
  obtain ⟨hfcs, hingress, hurgent, hbulk⟩ := hs.drops
  have hreserved : v.answerReserved = s.answerReserved := by rw [hframe]
  obtain ⟨htaken, hdrops⟩ := hoffered.capacity hreserved ⟨hs.urgent, hurgent⟩
  refine ⟨hlanes, ?_, htaken, hbulk64, ?_, ?_, hdrops, ?_⟩
  · rw [State.updLane_ingress, hframe]; exact hs.ingress
  · rw [State.updLane_fcsDrops, hframe]; exact hfcs
  · rw [State.updLane_ingressDrops, hframe]; exact hingress
  · rw [State.updLane_bulkDrops, hframe]; exact hbulk

theorem Act.capacity {s t : State} (h : Act c E s t) (hs : CapacityLaw s) : CapacityLaw t := by
  cases h with
  | kept hkept => exact hkept.sizes hs
  | moved hmoved => exact hs.updLane hmoved.sizes
  | lost _ hlost => exact lost_capacity hlost hs
  | entryLost => exact (loseEntry_work _ _ s _).capacity hs
  | ended => exact (endStep_work s _ _ _).capacity hs
  | summary => exact (enterSummary_work s).capacity hs

/-- The heartbeat, the BEACONs in the urgent queue and the reserved place stand. -/
def BeaconsKept (s t : State) : Prop :=
  t.heartbeat = s.heartbeat ∧ beaconBits t.urgent = beaconBits s.urgent ∧ t.answerReserved = s.answerReserved

theorem BeaconsKept.trans {s t u : State} (h : BeaconsKept s t) (g : BeaconsKept t u) : BeaconsKept s u :=
  ⟨g.1.trans h.1, g.2.1.trans h.2.1, g.2.2.trans h.2.2⟩

theorem StepWork.beaconsKept {s t : State} (h : StepWork s t) : BeaconsKept s t := by
  rw [BeaconsKept, h.frame]
  exact ⟨rfl, rfl, rfl⟩

theorem Act.beaconsKept {s t : State} (h : Act c E s t) : BeaconsKept s t := by
  cases h with
  | kept hkept => exact ⟨hkept.heartbeat, hkept.beacons, hkept.reserved⟩
  | moved => exact ⟨rfl, rfl, rfl⟩
  | @lost i o g h _ hlost =>
    obtain ⟨l, hl, hoffered⟩ := afterLane_offered s i o g
    have hframe := afterLane_frame s i o g
    show BeaconsKept s ((afterLane s i o g).updLane i h)
    generalize afterLane s i o g = v at *
    refine ⟨?_, ?_, ?_⟩
    · rw [State.updLane_heartbeat, hframe]
    · rw [State.updLane_urgent, hoffered.1, beaconBits_append, beaconBits_take hl, List.append_nil]
    · rw [State.updLane_answerReserved, hframe]
  | entryLost => exact (loseEntry_work _ _ s _).beaconsKept
  | ended => exact (endStep_work s _ _ _).beaconsKept
  | summary => exact (enterSummary_work s).beaconsKept

theorem Acts.capacity {s t : State} (h : Acts c E s t) (hs : CapacityLaw s) : CapacityLaw t := by
  induction h with
  | refl => exact hs
  | tail _ hact ih => exact hact.capacity ih

theorem Acts.beaconsKept {s t : State} (h : Acts c E s t) : BeaconsKept s t := by
  induction h with
  | refl => exact ⟨rfl, rfl, rfl⟩
  | tail _ hact ih => exact ih.trans hact.beaconsKept

/-- The uniqueness check keeps sizes. -/
theorem bindOrHold_capacity {s : State} (hs : CapacityLaw s) (i : LaneId) (id : List Byte) :
    CapacityLaw (s.bindOrHold i id) := by
  unfold State.bindOrHold
  split
  · refine ((recordEvent_besides _ i .held).kept none).sizes (hs.updLane fun h => ?_)
    exact h
  · refine ((recordEvent_besides _ i _).kept none).sizes (hs.updLane fun h => ?_)
    obtain ⟨htx, hmarks, hrx, hout, hdup, hbind, hboard⟩ := h
    refine ⟨htx, hmarks, hrx, hout, hdup, satIncr_le hbind, ?_⟩
    unfold Lane.bind
    dsimp only
    split
    · exact ⟨Nat.zero_le _, Nat.zero_le _, Nat.zero_le _⟩
    · exact hboard

theorem bindOrHold_beaconsKept (s : State) (i : LaneId) (id : List Byte) : BeaconsKept s (s.bindOrHold i id) := by
  have hrecord : ∀ (f : Lane → Lane) (k : EventKind), BeaconsKept s ((s.updLane i f).recordEvent i k) := fun f k => by
    rw [BeaconsKept, recordEvent_besides]
    exact ⟨rfl, rfl, rfl⟩
  unfold State.bindOrHold
  split
  · exact hrecord _ _
  · exact hrecord _ _

theorem Deed.capacity {s t : State} (h : Deed c E s t) (hs : CapacityLaw s) : CapacityLaw t := by
  cases h with
  | acts h => exact h.capacity hs
  | binds h => exact bindOrHold_capacity (h.capacity hs) _ _

theorem Deed.beaconsKept {s t : State} (h : Deed c E s t) : BeaconsKept s t := by
  cases h with
  | acts h => exact h.beaconsKept
  | binds h => exact h.beaconsKept.trans (bindOrHold_beaconsKept _ _ _)

end Sys2Proof
end

section
/-! PROOFS of O57: sizes and the heartbeat, along the course of a step. -/

namespace Sys2Proof

open Sys2Proof.Machine

variable {c : Option Instr} {E : Prop}

/-! ### A beacon enters -/

/-- The heartbeat stands with the BEACONs in the urgent queue, or a BEACON enters with the heartbeat inverted (R192). -/
def HeartbeatKept (s t : State) : Prop :=
  (t.heartbeat = s.heartbeat ∧ beaconBits t.urgent = beaconBits s.urgent)
    ∨ (t.heartbeat = !s.heartbeat ∧ beaconBits t.urgent = beaconBits s.urgent ++ [t.heartbeat])

theorem enterBeacon_heartbeat (s : State) :
    HeartbeatKept s s.enterBeacon ∧ s.enterBeacon.answerReserved = s.answerReserved := by
  rcases enterBeacon_cases s with ⟨-, -, h⟩ | ⟨-, h⟩ <;> rw [h]
  · exact ⟨.inr ⟨rfl, beaconBits_append s.urgent _⟩, rfl⟩
  · exact ⟨.inl ⟨rfl, rfl⟩, rfl⟩

theorem enterBeacon_capacity {s : State} (hs : CapacityLaw s) : CapacityLaw s.enterBeacon := by
  rcases enterBeacon_cases s with ⟨-, hroom, h⟩ | ⟨-, h⟩ <;> rw [h]
  · obtain ⟨hl, hi, hu, hb, hd⟩ := hs
    refine ⟨hl, hi, ?_, hb, hd⟩
    unfold urgentTaken at hroom
    rw [List.length_append]
    exact (Nat.add_right_comm s.urgent.length 1 _) ▸ hroom
  · exact hs

theorem choices_capacity {s : State} (hs : CapacityLaw s) (n : Nat) : CapacityLaw { s with choices := n } :=
  ⟨hs.lanes, hs.ingress, hs.urgent, hs.bulk, hs.drops⟩

theorem BeaconMayEnter.capacity {u v : State} (h : BeaconMayEnter u v) (hu : CapacityLaw u) : CapacityLaw v := by
  obtain ⟨n, rfl | rfl⟩ := h
  · exact choices_capacity hu n
  · exact enterBeacon_capacity (choices_capacity hu n)

theorem BeaconMayEnter.heartbeat {u v : State} (h : BeaconMayEnter u v) :
    HeartbeatKept u v ∧ v.answerReserved = u.answerReserved := by
  obtain ⟨n, rfl | rfl⟩ := h
  · exact ⟨.inl ⟨rfl, rfl⟩, rfl⟩
  · exact enterBeacon_heartbeat { u with choices := n }

/-! ### An order taken and answered -/

theorem taken_capacity {s : State} {o : Order} {rest : List Order} (hs : CapacityLaw s)
    (hin : s.ingress = o :: rest) (hroom : urgentTaken s < 32) : CapacityLaw (s.taken o rest) := by
  obtain ⟨hl, hi, -, hb, hd⟩ := hs
  rw [hin, List.length_cons] at hi
  unfold urgentTaken at hroom
  exact ⟨hl, Nat.le_of_succ_le hi, by show s.urgent.length + 1 ≤ 32; omega, hb, hd⟩

theorem finishOrder_capacity {s : State} (hs : CapacityLaw s) (hreserved : s.answerReserved = true) (o : Order)
    (b : AnswerBody) : CapacityLaw (s.finishOrder o b) := by
  obtain ⟨hl, hi, hu, hb, hd⟩ := hs
  rw [hreserved] at hu
  refine ⟨hl, hi, ?_, hb, hd⟩
  show (s.urgent ++ [_]).length + 0 ≤ 32
  rw [List.length_append]
  exact hu

theorem finishOrder_heartbeat (s : State) (o : Order) (b : AnswerBody) :
    (s.finishOrder o b).heartbeat = s.heartbeat ∧ beaconBits (s.finishOrder o b).urgent = beaconBits s.urgent :=
  ⟨rfl, (beaconBits_append s.urgent _).trans (List.append_nil _)⟩

theorem MembersFrame.bulk {r : RecordId} {s t : State} (h : MembersFrame r s t) : t.bulk = s.bulk := by
  rw [h.state]

/-- A step taken: a member's entry and DO frame come where there is room (R56). -/
theorem takeStepInto_capacity {s : State} (hs : CapacityLaw s) (r : RecordId) (a : StepArgs) :
    CapacityLaw (s.takeStepInto r a) := by
  have hframe := takeStepInto_stepFrame s r a
  have hbulk : (s.takeStepInto r a).bulk = s.bulk := by
    have hopen : (s.openStep r a).bulk = s.bulk := by rw [openStep_frame]
    exact (takeStepInto_laneMember s r a).1.bulk.trans hopen
  refine ⟨fun j => ?_, by rw [hframe]; exact hs.ingress, by rw [hframe]; exact hs.urgent,
    by rw [hbulk]; exact hs.bulk, by rw [hframe]; exact hs.drops⟩
  rw [takeStepInto_lane]
  split
  · rename_i hpending
    obtain ⟨htx, hmarks, hrx, hout, hrest⟩ := hs.lanes j
    have hroom := hpending.2
    unfold Lane.takeOutcome Config.outstandingSize Config.txQueueSize at hroom
    split at hroom
    · cases hroom
    · split at hroom
      · cases hroom
      · refine ⟨?_, hmarks, hrx, ?_, hrest⟩ <;> simp only [Lane.takeStep, List.length_append, List.length_singleton] <;>
          omega
  · exact hs.lanes j

/-! ### The other courses -/

theorem startReport_cases (s : State) :
    s.startReport = s
      ∨ (∃ r rest line, s.urgent = r :: rest ∧ s.startReport = { s with urgent := rest, uplinkLine := line })
      ∨ ∃ r rest line, s.bulk = r :: rest ∧ s.startReport = { s with bulk := rest, uplinkLine := line } := by
  unfold State.startReport
  split
  · split
    · exact .inr (.inl ⟨_, _, _, ‹_›, rfl⟩)
    · split
      · exact .inr (.inr ⟨_, _, _, ‹_›, rfl⟩)
      · exact .inl rfl
    · exact .inl rfl
  · exact .inl rfl

theorem startReport_capacity {s : State} (hs : CapacityLaw s) : CapacityLaw s.startReport := by
  obtain ⟨hl, hi, hu, hb, hd⟩ := hs
  rcases startReport_cases s with h | ⟨r, rest, line, hq, h⟩ | ⟨r, rest, line, hq, h⟩ <;> rw [h]
  · exact ⟨hl, hi, hu, hb, hd⟩
  · rw [hq, List.length_cons] at hu
    exact ⟨hl, hi, (Nat.add_le_add_right (Nat.le_succ _) _).trans hu, hb, hd⟩
  · rw [hq, List.length_cons] at hb
    exact ⟨hl, hi, hu, Nat.le_of_succ_le hb, hd⟩

theorem startReport_heartbeat (s : State) : s.startReport.heartbeat = s.heartbeat
    ∧ (beaconBits s.startReport.urgent = beaconBits s.urgent ∨ s.startReport.urgent = s.urgent.tail) := by
  rcases startReport_cases s with h | ⟨r, rest, line, hq, h⟩ | ⟨r, rest, line, hq, h⟩ <;> rw [h]
  · exact ⟨rfl, .inl rfl⟩
  · exact ⟨rfl, .inr (by rw [hq]; rfl)⟩
  · exact ⟨rfl, .inl rfl⟩

theorem afterReset_sized (seat : Bool) (line : List Byte) : (Lane.afterReset seat line).Sized :=
  ⟨Nat.zero_le _, Nat.zero_le _, Nat.zero_le _, Nat.zero_le _, Nat.zero_le _, Nat.zero_le _, Nat.zero_le _,
    Nat.zero_le _, Nat.zero_le _⟩

theorem poweredOn_lane (s : State) (straps : BitVec 4) (seats : LaneSet) (i : LaneId) :
    (s.poweredOn straps seats).lane i = Lane.afterReset (inSet seats i) [] := by
  simp only [State.poweredOn, State.lane, Fin.getElem_fin, Vector.getElem_ofFn]

theorem resetByOrder_lane (s : State) (straps : BitVec 4) (i : LaneId) :
    (s.resetByOrder straps).lane i = Lane.afterReset (s.lane i).rawSeat (s.lane i).txLine := by
  simp only [State.resetByOrder, State.lane, Fin.getElem_fin, Vector.getElem_ofFn]

/-- What power-on and a RESET leave beside the lanes, as far as the laws see it (R178). -/
structure Cleared (t : State) : Prop where
  queues : t.ingress = [] ∧ t.urgent = [] ∧ t.bulk = [] ∧ t.answerReserved = false
  drops : t.fcsDrops = 0 ∧ t.ingressDrops = 0 ∧ t.urgentDrops = 0 ∧ t.bulkDrops = 0
  flags : t.startup = true ∧ t.heartbeat = false
  records : ∀ r, t.record r = StepRecord.reset
  lists : t.freeOrder = List.finRange 32 ∧ t.closing = []
  instruments : ∀ k, t.instrument k = Instrument.reset
  lanes : ∀ i, ∃ seat line, t.lane i = Lane.afterReset seat line

theorem reset_record (r : RecordId) : State.reset.record r = StepRecord.reset := by
  simp [State.record, State.reset]

theorem reset_instrument (k : InstrumentId) : State.reset.instrument k = Instrument.reset := by
  simp [State.instrument, State.reset]

theorem poweredOn_cleared (s : State) (straps : BitVec 4) (seats : LaneSet) : Cleared (s.poweredOn straps seats) := by
  have hrecords : (s.poweredOn straps seats).records = State.reset.records := by simp only [State.poweredOn]
  have hinstruments : (s.poweredOn straps seats).instruments = State.reset.instruments := by
    simp only [State.poweredOn]
  refine ⟨?_, ?_, ?_, fun r => ?_, ?_, fun k => ?_, fun i => ⟨_, _, poweredOn_lane s straps seats i⟩⟩
  · simp only [State.poweredOn, State.reset, and_self]
  · simp only [State.poweredOn, State.reset, and_self]
  · simp only [State.poweredOn, State.reset, and_self]
  · rw [State.record, hrecords]; exact reset_record r
  · simp only [State.poweredOn, State.reset, and_self]
  · rw [State.instrument, hinstruments]; exact reset_instrument k

theorem resetByOrder_cleared (s : State) (straps : BitVec 4) : Cleared (s.resetByOrder straps) := by
  have hrecords : (s.resetByOrder straps).records = State.reset.records := by simp only [State.resetByOrder]
  have hinstruments : (s.resetByOrder straps).instruments = State.reset.instruments := by
    simp only [State.resetByOrder]
  refine ⟨?_, ?_, ?_, fun r => ?_, ?_, fun k => ?_, fun i => ⟨_, _, resetByOrder_lane s straps i⟩⟩
  · simp only [State.resetByOrder, State.reset, and_self]
  · simp only [State.resetByOrder, State.reset, and_self]
  · simp only [State.resetByOrder, State.reset, and_self]
  · rw [State.record, hrecords]; exact reset_record r
  · simp only [State.resetByOrder, State.reset, and_self]
  · rw [State.instrument, hinstruments]; exact reset_instrument k

theorem Cleared.capacity {t : State} (h : Cleared t) : CapacityLaw t := by
  obtain ⟨hin, hurgent, hbulk, hreserved⟩ := h.queues
  obtain ⟨h1, h2, h3, h4⟩ := h.drops
  refine ⟨fun i => ?_, by rw [hin]; exact Nat.zero_le _, by rw [hurgent, hreserved]; exact Nat.zero_le _,
    by rw [hbulk]; exact Nat.zero_le _, by omega⟩
  obtain ⟨seat, line, hlane⟩ := h.lanes i
  rw [hlane]
  exact afterReset_sized seat line

/-! ### The whole course -/

theorem answered_capacity {u v : State} {o : Order} {b : AnswerBody} (hu : CapacityLaw u)
    (hreserved : u.answerReserved = true) (h : BeaconMayEnter u v) : CapacityLaw (v.finishOrder o b) :=
  finishOrder_capacity (h.capacity hu) (h.heartbeat.2.trans hreserved) o b

theorem takeStepInto_closed_work (s : State) (r : RecordId) (a : StepArgs) :
    BeaconsKept s ((s.takeStepInto r a).closingCheck r) := by
  have hframe : StepFrame s ((s.takeStepInto r a).closingCheck r) :=
    (takeStepInto_stepFrame s r a).trans (closingCheck_frame _ r)
  rw [BeaconsKept, hframe]
  exact ⟨rfl, rfl, rfl⟩

theorem Course.capacity {s t : State} (h : Course c E s t) (hs : CapacityLaw s) : CapacityLaw t := by
  cases h with
  | deed h => exact h.capacity hs
  | answered hin hroom hdeed hbeacon =>
    exact answered_capacity (hdeed.capacity (taken_capacity hs hin hroom)) hdeed.beaconsKept.2.2 hbeacon
  | @stepTaken o rest a r free v _ _ _ _ _ _ hin hroom _ _ _ _ _ hbeacon =>
    have htaken := takeStepInto_capacity (taken_capacity hs hin hroom) r a
    exact answered_capacity ((closingCheck_work _ r).capacity htaken) (takeStepInto_closed_work _ r a).2.2 hbeacon
  | beacon => exact enterBeacon_capacity hs
  | report => exact startReport_capacity hs
  | poweredOn => exact (poweredOn_cleared s _ _).capacity
  | reset => exact (resetByOrder_cleared _ _).capacity

theorem answered_heartbeat {s u v : State} {o : Order} {rest : List Order} {b : AnswerBody}
    (hkept : BeaconsKept (s.taken o rest) u) (h : BeaconMayEnter u v) : HeartbeatKept s (v.finishOrder o b) := by
  obtain ⟨hheart, hbits, -⟩ := hkept
  obtain ⟨hfinish, hfinishBits⟩ := finishOrder_heartbeat v o b
  rw [HeartbeatKept, hfinish, hfinishBits]
  rcases h.heartbeat.1 with ⟨h1, h2⟩ | ⟨h1, h2⟩
  · exact .inl ⟨h1.trans hheart, h2.trans hbits⟩
  · exact .inr ⟨h1.trans (congrArg _ hheart), by rw [h2, hbits]; rfl⟩

/-- R192 along the course of a step. -/
theorem Course.heartbeat {s t : State} (h : Course c E s t) :
    HeartbeatKept s t
      ∨ (t.heartbeat = s.heartbeat ∧ t.urgent = s.urgent.tail)
      ∨ (t.heartbeat = false ∧ t.urgent = [] ∧ t.startup = true
        ∧ ((∃ straps seats, c = some (.powerOn straps seats)) ∨ ∃ straps, c = some (.reset straps))) := by
  cases h with
  | deed h => exact .inl (.inl ⟨h.beaconsKept.1, h.beaconsKept.2.1⟩)
  | answered _ _ hdeed hbeacon => exact .inl (answered_heartbeat hdeed.beaconsKept hbeacon)
  | @stepTaken o rest a r free v _ _ _ _ _ _ _ _ _ _ _ _ _ hbeacon =>
    exact .inl (answered_heartbeat (takeStepInto_closed_work _ r a) hbeacon)
  | beacon => exact .inl (enterBeacon_heartbeat s).1
  | report =>
    obtain ⟨hheart, hbits | htail⟩ := startReport_heartbeat s
    · exact .inl (.inl ⟨hheart, hbits⟩)
    · exact .inr (.inl ⟨hheart, htail⟩)
  | poweredOn hc =>
    have hcleared := poweredOn_cleared s ‹_› ‹_›
    exact .inr (.inr ⟨hcleared.flags.2, hcleared.queues.2.1, hcleared.flags.1, .inl ⟨_, _, hc⟩⟩)
  | @reset straps u hc =>
    have hcleared := resetByOrder_cleared u straps
    exact .inr (.inr ⟨hcleared.flags.2, hcleared.queues.2.1, hcleared.flags.1, .inr ⟨_, hc⟩⟩)

/-- Settles O57: by the acts of the step's course, each of which keeps sizes and BEACONs. -/
theorem everyStepKeepsCapacities : Obligations.EveryStepKeepsCapacities := by
  unfold Obligations.EveryStepKeepsCapacities
  refine ⟨fun s t hs h => (step_course h).capacity ⟨hs.lanes, hs.ingress, hs.urgent, hs.bulk, hs.drops⟩,
    fun s t h => ?_⟩
  rcases (step_course h).heartbeat with (⟨hheart, hbits⟩ | hbeacon) | ⟨hheart, htail⟩ | ⟨hheart, hurgent, hstart, hc⟩
  · exact .inl ⟨hheart, .inl hbits⟩
  · exact .inr (.inl hbeacon)
  · exact .inl ⟨hheart, .inr htail⟩
  · have hpending : ∀ i, s.pending.head? = some i → ∃ rest, s.pending = i :: rest := fun i hi =>
      ⟨s.pending.tail, List.eq_cons_of_mem_head? hi⟩
    refine .inr (.inr ⟨hheart, hurgent, hstart, ?_⟩)
    rcases hc with ⟨straps, seats, hc⟩ | ⟨straps, hc⟩
    · obtain ⟨rest, hrest⟩ := hpending _ hc
      exact ⟨_, rest, hrest, .inl ⟨straps, seats, rfl⟩⟩
    · obtain ⟨rest, hrest⟩ := hpending _ hc
      exact ⟨_, rest, hrest, .inr ⟨straps, rfl⟩⟩

end Sys2Proof
end

section
/-! PROOFS of O58 and O59: identities and verdicts, and the laws of engines and instruments, along the course of a
step. -/

namespace Sys2Proof

open Sys2Proof.Machine

variable {c : Option Instr} {E : Prop}

/-! ### Identities of BOUND lanes (R35) -/

/-- No lane becomes BOUND, and a BOUND lane keeps its identity or loses it. -/
def BoundKept (s t : State) : Prop :=
  ∀ j, (t.lane j).state = .bound → (s.lane j).state = .bound
    ∧ ((t.lane j).identity = (s.lane j).identity ∨ (t.lane j).identity = none)

theorem BoundKept.identityLaw {s t : State} (h : BoundKept s t) (hs : IdentityLaw s) : IdentityLaw t := by
  intro i j hij hi hj hne heq
  obtain ⟨hbi, hidi | hnone⟩ := h i hi
  · obtain ⟨hbj, hidj | hnone⟩ := h j hj
    · exact hs i j hij hbi hbj (hidi ▸ hne) (by rw [← hidi, heq, hidj])
    · exact hne (heq.trans hnone)
  · exact hne hnone

theorem BoundKept.of_lanes {s t : State} (h : ∀ j, (t.lane j).state = (s.lane j).state
    ∧ (t.lane j).identity = (s.lane j).identity) : BoundKept s t := fun j hj =>
  ⟨(h j).1 ▸ hj, .inl (h j).2⟩

theorem StepWork.boundKept {s t : State} (h : StepWork s t) : BoundKept s t := .of_lanes fun j => by
  obtain ⟨out, q, -, -, hj⟩ := h.lanes j
  rw [hj]
  exact ⟨rfl, rfl⟩

/-- One lane that becomes BOUND under an identity no other BOUND lane holds. -/
theorem IdentityLaw.updLane {s : State} {i : LaneId} {f : Lane → Lane} (hs : IdentityLaw s)
    (hunique : (f (s.lane i)).state = .bound → ∀ id, (f (s.lane i)).identity = some id →
      s.boundElsewhere i id = false) : IdentityLaw (s.updLane i f) := by
  have hnew : ∀ j, j ≠ i → (f (s.lane i)).state = .bound → (s.lane j).state = .bound →
      (f (s.lane i)).identity ≠ none → (f (s.lane i)).identity ≠ (s.lane j).identity := by
    intro j hji hi hj hne heq
    obtain ⟨id, hid⟩ := Option.ne_none_iff_exists'.1 hne
    exact boundElsewhere_eq_false_iff.1 (hunique hi id hid) j hji hj (by rw [← heq, hid])
  intro a b hab ha hb hne heq
  by_cases hai : a = i
  · subst hai
    rw [State.lane_updLane_self] at ha hne heq
    rw [State.lane_updLane_of_ne _ _ (Ne.symm hab)] at hb heq
    exact hnew b (Ne.symm hab) ha hb hne heq
  · rw [State.lane_updLane_of_ne _ _ hai] at ha hne heq
    by_cases hbi : b = i
    · subst hbi
      rw [State.lane_updLane_self] at hb heq
      exact hnew a hai hb ha (heq ▸ hne) heq.symm
    · rw [State.lane_updLane_of_ne _ _ hbi] at hb heq
      exact hs a b hab ha hb hne heq

theorem lost_boundKept {s : State} {i : LaneId} {o : MemberOutcome} {g h : Lane → Lane} (hlost : LaneLost E s i g h) :
    BoundKept s ((afterLane s i o g).updLane i h) := by
  intro j hj
  by_cases hji : j = i
  · subst hji
    obtain ⟨x, hx⟩ := lost_lane_self s j o g h
    rw [hx] at hj ⊢
    exact ⟨hlost.state x hj, (hlost.identity x).imp And.left id⟩
  · obtain ⟨x, hx⟩ := lost_lane_of_ne s o g h hji
    rw [hx] at hj ⊢
    exact ⟨hj, .inl rfl⟩

theorem Act.identityLaw {s t : State} (h : Act c E s t) (hs : IdentityLaw s) : IdentityLaw t := by
  cases h with
  | kept hkept => exact (BoundKept.of_lanes fun j => ⟨(hkept.lanes j).state, (hkept.lanes j).identity⟩).identityLaw hs
  | moved hmoved => exact hs.updLane hmoved.unique
  | lost _ hlost => exact (lost_boundKept hlost).identityLaw hs
  | entryLost => exact (loseEntry_work _ _ s _).boundKept.identityLaw hs
  | ended => exact (endStep_work s _ _ _).boundKept.identityLaw hs
  | summary => exact (enterSummary_work s).boundKept.identityLaw hs

theorem Acts.identityLaw {s t : State} (h : Acts c E s t) (hs : IdentityLaw s) : IdentityLaw t := by
  induction h with
  | refl => exact hs
  | tail _ hact ih => exact hact.identityLaw ih

theorem Besides.lane_eq {s t : State} (h : Besides s t) (j : LaneId) : t.lane j = s.lane j := by
  rw [h]; rfl

/-- The uniqueness check lets a lane be BOUND under an identity only where no other BOUND lane holds it. -/
theorem bindOrHold_identityLaw {s : State} (hs : IdentityLaw s) (i : LaneId) (id : List Byte) :
    IdentityLaw (s.bindOrHold i id) := by
  have hrecord : ∀ (u : State) (k : EventKind), IdentityLaw u → IdentityLaw (u.recordEvent i k) := fun u k hu =>
    (BoundKept.of_lanes fun j => by rw [recordEvent_lane]; exact ⟨rfl, rfl⟩).identityLaw hu
  unfold State.bindOrHold
  split
  · exact hrecord _ _ (hs.updLane fun h => (by cases h))
  · rename_i helse
    refine hrecord _ _ (hs.updLane fun _ id' hid => ?_)
    obtain rfl : id = id' := Option.some.inj hid
    simpa using helse

theorem Deed.identityLaw {s t : State} (h : Deed c E s t) (hs : IdentityLaw s) : IdentityLaw t := by
  cases h with
  | acts h => exact h.identityLaw hs
  | binds h => exact bindOrHold_identityLaw (h.identityLaw hs) _ _

theorem enterBeacon_lane (s : State) (j : LaneId) : s.enterBeacon.lane j = s.lane j := by
  rcases enterBeacon_cases s with ⟨-, -, h⟩ | ⟨-, h⟩ <;> simp only [h, State.lane]

theorem BeaconMayEnter.lane_eq {u v : State} (h : BeaconMayEnter u v) (j : LaneId) : v.lane j = u.lane j := by
  obtain ⟨n, rfl | rfl⟩ := h
  · rfl
  · exact enterBeacon_lane { u with choices := n } j

theorem answered_lane {u v : State} (h : BeaconMayEnter u v) (o : Order) (b : AnswerBody) (j : LaneId) :
    (v.finishOrder o b).lane j = u.lane j := h.lane_eq j

theorem startReport_lane (s : State) (j : LaneId) : s.startReport.lane j = s.lane j := by
  rcases startReport_cases s with h | ⟨r, rest, line, -, h⟩ | ⟨r, rest, line, -, h⟩ <;> simp only [h, State.lane]

/-- The lanes after a step is taken: entries and DO frames come to them (R56). -/
theorem stepTaken_lane (s : State) (r : RecordId) (a : StepArgs) (j : LaneId) :
    ((s.takeStepInto r a).closingCheck r).lane j =
      if inSet (s.targetMembers a.target) j = true ∧ (s.lane j).takeOutcome = .pending then
        (s.lane j).takeStep r a
      else s.lane j := by
  rw [closingCheck_lane, takeStepInto_lane]

theorem stepTaken_boundKept (s : State) (r : RecordId) (a : StepArgs) :
    BoundKept s ((s.takeStepInto r a).closingCheck r) := .of_lanes fun j => by
  rw [stepTaken_lane]
  split <;> exact ⟨rfl, rfl⟩

theorem Cleared.off {t : State} (h : Cleared t) (j : LaneId) : (t.lane j).state = .off := by
  obtain ⟨seat, line, hlane⟩ := h.lanes j
  rw [hlane]
  rfl

theorem Cleared.identityLaw {t : State} (h : Cleared t) : IdentityLaw t := by
  intro i j _ hi
  rw [h.off] at hi
  cases hi

theorem Course.identityLaw {s t : State} (h : Course c E s t) (hs : IdentityLaw s) : IdentityLaw t := by
  have hsame : ∀ {u v : State}, (∀ j, v.lane j = u.lane j) → IdentityLaw u → IdentityLaw v := fun hl hu =>
    (BoundKept.of_lanes fun j => by rw [hl]; exact ⟨rfl, rfl⟩).identityLaw hu
  cases h with
  | deed h => exact h.identityLaw hs
  | answered _ _ hdeed hbeacon => exact hsame (answered_lane hbeacon _ _) (hdeed.identityLaw (hsame (fun _ => rfl) hs))
  | stepTaken _ _ _ _ _ _ _ _ hbeacon =>
    exact hsame (answered_lane hbeacon _ _) ((stepTaken_boundKept _ _ _).identityLaw (hsame (fun _ => rfl) hs))
  | beacon => exact hsame (enterBeacon_lane s) hs
  | report => exact hsame (startReport_lane s) hs
  | poweredOn => exact (poweredOn_cleared s _ _).identityLaw
  | reset => exact (resetByOrder_cleared _ _).identityLaw

/-! ### Verdicts (R125) -/

/-- A lane loses its identity, or keeps it under a verdict no better. -/
def VerdictKept (l l' : Lane) : Prop :=
  l'.identity = none ∨ (l'.identity = l.identity ∧ l.board.verdict.rank ≤ l'.board.verdict.rank)

theorem VerdictKept.of_eq {l l' : Lane} (hid : l'.identity = l.identity) (hboard : l'.board = l.board) :
    VerdictKept l l' := .inr ⟨hid, by rw [hboard]⟩

theorem VerdictKept.trans {l m n : Lane} (h : VerdictKept l m) (g : VerdictKept m n) : VerdictKept l n := by
  rcases g with hnone | ⟨hid, hrank⟩
  · exact .inl hnone
  · rcases h with hnone | ⟨hid', hrank'⟩
    · exact .inl (hid.trans hnone)
    · exact .inr ⟨hid.trans hid', hrank'.trans hrank⟩

theorem StepWork.verdictKept {s t : State} (h : StepWork s t) (j : LaneId) : VerdictKept (s.lane j) (t.lane j) := by
  obtain ⟨out, q, -, -, hj⟩ := h.lanes j
  rw [hj]
  exact .of_eq rfl rfl

theorem lost_verdictKept {s : State} {i : LaneId} {o : MemberOutcome} {g h : Lane → Lane} (hlost : LaneLost E s i g h)
    (j : LaneId) : VerdictKept (s.lane j) (((afterLane s i o g).updLane i h).lane j) := by
  by_cases hji : j = i
  · subst hji
    obtain ⟨x, hx⟩ := lost_lane_self s j o g h
    rw [hx]
    exact (hlost.identity x).symm
  · obtain ⟨x, hx⟩ := lost_lane_of_ne s o g h hji
    rw [hx]
    exact .of_eq rfl rfl

theorem Act.verdictKept {s t : State} (h : Act c E s t) (hc : c ≠ some .clearVerdict) (j : LaneId) :
    VerdictKept (s.lane j) (t.lane j) := by
  cases h with
  | kept hkept => exact .inr ⟨(hkept.lanes j).identity, (hkept.lanes j).verdict hc⟩
  | @moved i f hmoved =>
    rw [State.lane_updLane]
    split
    · subst_vars; exact .inr ⟨hmoved.identity, hmoved.verdict⟩
    · exact .of_eq rfl rfl
  | lost _ hlost => exact lost_verdictKept hlost j
  | entryLost => exact (loseEntry_work _ _ s _).verdictKept j
  | ended => exact (endStep_work s _ _ _).verdictKept j
  | summary => exact (enterSummary_work s).verdictKept j

theorem Acts.verdictKept {s t : State} (h : Acts c E s t) (hc : c ≠ some .clearVerdict) (j : LaneId) :
    VerdictKept (s.lane j) (t.lane j) := by
  induction h with
  | refl => exact .of_eq rfl rfl
  | tail _ hact ih => exact ih.trans (hact.verdictKept hc j)

theorem rank_le_fail (v : Verdict) : v.rank ≤ Verdict.fail.rank := by cases v <;> decide

/-- A lane that ends a deed under the identity it began with has no better verdict (R125). -/
theorem Deed.verdict {s t : State} (h : Deed c E s t) (hc : c ≠ some .clearVerdict) (j : LaneId)
    (hne : (s.lane j).identity ≠ none) (hsame : (t.lane j).identity = (s.lane j).identity) :
    (s.lane j).board.verdict.rank ≤ (t.lane j).board.verdict.rank := by
  cases h with
  | acts h =>
    rcases h.verdictKept hc j with hnone | ⟨-, hrank⟩
    · exact absurd (hsame.symm.trans hnone) hne
    · exact hrank
  | @binds u i id h hocc hunbound hid hback =>
    have hu := h.verdictKept hc j
    rw [bindOrHold_lane] at hsame ⊢
    by_cases hji : j = i
    · subst hji
      rw [if_pos rfl] at hsame ⊢
      split at hsame
      · rw [if_pos ‹_›]
        exact rank_le_fail _
      · rw [if_neg ‹_›]
        have huid := hback hsame.symm
        rcases hu with hnone | ⟨-, hrank⟩
        · rw [huid] at hnone
          cases hnone
        · simpa [Lane.bind, huid] using hrank
    · rw [if_neg hji] at hsame ⊢
      rcases hu with hnone | ⟨-, hrank⟩
      · exact absurd (hsame.symm.trans hnone) hne
      · exact hrank

theorem Course.verdict {s t : State} (h : Course c E s t) (hc : c ≠ some .clearVerdict) (j : LaneId)
    (hne : (s.lane j).identity ≠ none) (hsame : (t.lane j).identity = (s.lane j).identity) :
    (s.lane j).board.verdict.rank ≤ (t.lane j).board.verdict.rank := by
  have hcleared : ∀ {v : State}, Cleared v → (v.lane j).identity = none := fun hv => by
    obtain ⟨seat, line, hlane⟩ := hv.lanes j
    rw [hlane]
    rfl
  cases h with
  | deed h => exact h.verdict hc j hne hsame
  | answered _ _ hdeed hbeacon =>
    rw [answered_lane hbeacon] at hsame ⊢
    exact hdeed.verdict hc j hne hsame
  | stepTaken _ _ _ _ _ _ _ _ hbeacon =>
    rw [answered_lane hbeacon, stepTaken_lane]
    split <;> exact le_rfl
  | beacon => rw [enterBeacon_lane]
  | report => rw [startReport_lane]
  | poweredOn => exact absurd (hsame.symm.trans (hcleared (poweredOn_cleared s _ _))) hne
  | reset => exact absurd (hsame.symm.trans (hcleared (resetByOrder_cleared _ _))) hne

/-- Settles O58: by the acts of the step's course. A lane becomes BOUND only by the uniqueness check, or by a RESUME
with its outcome; and a verdict gets better only with the identity gone, or by a CLEAR-VERDICT. -/
theorem everyStepKeepsIdentitiesDistinct : Obligations.EveryStepKeepsIdentitiesDistinct := by
  unfold Obligations.EveryStepKeepsIdentitiesDistinct
  refine ⟨fun s t hs h => (step_course h).identityLaw hs, fun s t i h hc hne hsame => ?_⟩
  exact worseOf_eq_right_iff.2 ((step_course h).verdict hc i hne hsame)

/-! ### Engines and instruments (R33, R141) -/

theorem StartupLaw.of_states {s t : State} (hs : StartupLaw s) (hstart : t.startup = true → s.startup = true)
    (hstate : ∀ j, (t.lane j).state = (s.lane j).state) : StartupLaw t := fun h j =>
  (hstate j).trans (hs (hstart h) j)

theorem StepWork.enginesLaw {s t : State} (h : StepWork s t) (hs : EnginesLaw s) : EnginesLaw t := by
  have hframe := h.frame
  have hstate : ∀ j, (t.lane j).state = (s.lane j).state := fun j => by
    obtain ⟨out, q, -, -, hj⟩ := h.lanes j
    rw [hj]
  have harb : Arbitrated s t := Arbitrated.of_each hstate (fun _ _ j hfit => by
      obtain ⟨out, q, hout, hq, hj⟩ := h.lanes j
      rw [hj]
      exact hfit.sublist hout hq) fun k hk => by
    rw [State.instrument, hframe]
    exact hk
  exact ⟨hs.1.of_states (by rw [hframe]; exact id) hstate, harb hs.2.1 hs.2.2⟩

/-- One lane that is not BOUND moves. -/
theorem moved_enginesLaw {s : State} {i : LaneId} {f : Lane → Lane} (hE : E) (h : LaneMoved E s i (f (s.lane i)))
    (hs : EnginesLaw s) : EnginesLaw (s.updLane i f) := by
  obtain ⟨hstart, hengine, harbiter⟩ := hs
  refine ⟨fun hup j => ?_, fun j => ?_, arbiterLaw_iff.2 fun k => ?_⟩
  · rw [State.lane_updLane]
    split
    · rcases h.started hE with hoff | hnot
      · exact hoff
      · exact absurd (hnot.symm.trans hup) (by decide)
    · exact hstart hup j
  · rw [State.lane_updLane]
    split
    · subst_vars; exact h.fits hE (hengine _)
    · exact hengine j
  · refine (arbiterLaw_iff.1 harbiter k).mono fun j hj => ?_
    rw [State.bound, State.lane_updLane_of_ne]
    · exact hj
    · rintro rfl; exact h.unbound hj

/-- A control slot changes by the loss of another lane only with a grant to a waiter. -/
theorem granted_of_controlAfterLossOf_ne {s : State} {ks : List InstrumentId} {i j : LaneId}
    (h : s.controlAfterLossOf ks i j ≠ (s.lane j).control) : ∃ k, nextOf (s.instrument k) = some j := by
  unfold State.controlAfterLossOf at h
  cases hlast : (ks.filter fun k =>
      (s.instrument k).holder = some i ∧ nextOf (s.instrument k) = some j).getLast? with
  | none => rw [hlast] at h; exact absurd rfl h
  | some k =>
    have hmem := (List.mem_filter.1 (List.mem_of_getLast? hlast)).2
    exact ⟨k, (of_decide_eq_true hmem).2⟩

/-- A lane is lost: its engine is emptied as its new state asks, its instruments go to waiters that are BOUND, and a
lane waits for no instrument it holds. -/
theorem lost_enginesLaw {s : State} {i : LaneId} {o : MemberOutcome} {g h : Lane → Lane} (hE : E)
    (hlost : LaneLost E s i g h) (hs : EnginesLaw s) : EnginesLaw ((afterLane s i o g).updLane i h) := by
  obtain ⟨-, hengine, harbiter⟩ := hs
  let u := (s.loseEntries i o).updLane i g
  have huinstr : ∀ k, u.instrument k = s.instrument k := fun k => by
    rw [State.instrument_updLane, State.instrument, loseEntries_frame]
    rfl
  have hwait : HoldsWithoutWaiting u i := fun k hk => by
    rw [huinstr] at hk ⊢
    exact harbiter.holdsWithoutWaiting i k hk
  have hlosses := loseInstruments_instrumentsLost hwait
  have hulane : ∀ j, j ≠ i → u.lane j = s.lane j := fun j hj => by
    rw [State.lane_updLane_of_ne _ _ hj, loseEntries_lane, if_neg hj]
  have huself : u.lane i = g { s.lane i with outstanding := [] } := by
    rw [State.lane_updLane_self, loseEntries_lane, if_pos rfl]
  have hstart : ((afterLane s i o g).updLane i h).startup = false := by
    rw [State.updLane_startup, afterLane_frame]
    exact hlost.started hE
  have hbound : ∀ j, j ≠ i → s.bound j → ((afterLane s i o g).updLane i h).bound j := fun j hj hbj => by
    obtain ⟨x, hx⟩ := lost_lane_of_ne s o g h hj
    rw [State.bound, hx]
    exact hbj
  refine ⟨fun hup => absurd (hstart.symm.trans hup) (by decide), fun j => ?_, arbiterLaw_iff.2 fun k => ?_⟩
  · by_cases hj : j = i
    · subst hj
      rw [State.lane_updLane_self]
      have hself : (afterLane s j o g).lane j = u.lane j := by
        rw [afterLane, hlosses.lanes, controlAfterLossOf_self hwait]
      rw [hself, huself]
      exact hlost.fits hE (hengine j)
    · rw [State.lane_updLane_of_ne _ _ hj]
      have hother : (afterLane s i o g).lane j =
          { s.lane j with control := u.controlAfterLossOf (List.finRange 4) i j } := by
        rw [afterLane, hlosses.lanes, hulane j hj]
      rw [hother]
      by_cases hcontrol : u.controlAfterLossOf (List.finRange 4) i j = (u.lane j).control
      · rw [hcontrol, hulane j hj]
        exact hengine j
      · obtain ⟨k, hk⟩ := granted_of_controlAfterLossOf_ne hcontrol
        rw [huinstr] at hk
        have hwaits := (arbiterLaw_iff.1 harbiter k).waiting j (inSet_of_nextOf hk)
        exact Lane.Fits.control (hengine j) (servesOwn_of_bound hwaits.1)
          _ _
  · have hinstr : ((afterLane s i o g).updLane i h).instrument k = afterLoss (s.instrument k) i := by
      rw [State.instrument_updLane, afterLane, hlosses.instruments, if_pos (List.mem_finRange k), huinstr]
    rw [hinstr]
    exact (arbiterLaw_iff.1 harbiter k).afterLoss hbound

theorem Act.enginesLaw {s t : State} (h : Act c E s t) (hE : E) (hs : EnginesLaw s) : EnginesLaw t := by
  cases h with
  | kept hkept harb =>
    exact ⟨hs.1.of_states hkept.startup fun j => (hkept.lanes j).state, harb hE hs.2.1 hs.2.2⟩
  | moved hmoved => exact moved_enginesLaw hE hmoved hs
  | lost _ hlost => exact lost_enginesLaw hE hlost hs
  | entryLost => exact (loseEntry_work _ _ s _).enginesLaw hs
  | ended => exact (endStep_work s _ _ _).enginesLaw hs
  | summary => exact (enterSummary_work s).enginesLaw hs

theorem Acts.enginesLaw {s t : State} (h : Acts c E s t) (hE : E) (hs : EnginesLaw s) : EnginesLaw t := by
  induction h with
  | refl => exact hs
  | tail _ hact ih => exact hact.enginesLaw hE ih

/-- The uniqueness check leaves a phone on the lane and gives it no entries. -/
theorem bindOrHold_enginesLaw {s : State} {i : LaneId} (hocc : (s.lane i).state.occupied = true)
    (hunbound : (s.lane i).state ≠ .bound) (hstart : s.startup = false) (hs : EnginesLaw s) (id : List Byte) :
    EnginesLaw (s.bindOrHold i id) := by
  obtain ⟨-, hengine, harbiter⟩ := hs
  have hframe := bindOrHold_frame s i id
  have hinstr : ∀ k, (s.bindOrHold i id).instrument k = s.instrument k := fun k => by
    unfold State.bindOrHold
    split <;> rw [recordEvent_instrument, State.instrument_updLane]
  refine ⟨fun hup => ?_, fun j => ?_, arbiterLaw_iff.2 fun k => ?_⟩
  · rw [hframe] at hup
    exact absurd (hstart.symm.trans hup) (by decide)
  · rw [bindOrHold_lane]
    have hout := (hengine i).2.2 hunbound
    split
    · split
      · exact Lane.Fits.of_occupied (by rfl) (fun h => (by cases h)) hout
      · exact Lane.Fits.of_occupied (by rfl) (fun h => (by cases h)) hout
    · exact hengine j
  · rw [hinstr]
    refine (arbiterLaw_iff.1 harbiter k).mono fun j hj => ?_
    rw [State.bound, bindOrHold_lane, if_neg]
    · exact hj
    · rintro rfl; exact hunbound hj

theorem Deed.enginesLaw {s t : State} (h : Deed c E s t) (hE : E) (hs : EnginesLaw s) : EnginesLaw t := by
  cases h with
  | acts h => exact h.enginesLaw hE hs
  | binds h hocc hunbound _ _ hstart => exact bindOrHold_enginesLaw hocc hunbound (hstart hE) (h.enginesLaw hE hs) _

/-- The laws of engines and instruments speak of lanes, instrument records and STARTUP only. -/
theorem EnginesLaw.of_eq {s t : State} (hs : EnginesLaw s) (hlane : ∀ j, t.lane j = s.lane j)
    (hinstr : ∀ k, t.instrument k = s.instrument k) (hstart : t.startup = s.startup) : EnginesLaw t := by
  obtain ⟨hstartup, hengine, harbiter⟩ := hs
  refine ⟨fun hup j => ?_, fun j => ?_, fun k => ?_⟩
  · rw [hlane]; exact hstartup (hstart ▸ hup) j
  · rw [hlane]; exact hengine j
  · simp only [hlane, hinstr]; exact harbiter k

theorem enterBeacon_enginesLaw {s : State} (hs : EnginesLaw s) : EnginesLaw s.enterBeacon := by
  refine hs.of_eq (enterBeacon_lane s) (fun k => ?_) ?_ <;>
    rcases enterBeacon_cases s with ⟨-, -, h⟩ | ⟨-, h⟩ <;> simp only [h, State.instrument]

theorem startReport_enginesLaw {s : State} (hs : EnginesLaw s) : EnginesLaw s.startReport := by
  refine hs.of_eq (startReport_lane s) (fun k => ?_) ?_ <;>
    rcases startReport_cases s with h | ⟨r, rest, line, -, h⟩ | ⟨r, rest, line, -, h⟩ <;>
      simp only [h, State.instrument]

theorem BeaconMayEnter.enginesLaw {u v : State} (h : BeaconMayEnter u v) (hu : EnginesLaw u) : EnginesLaw v := by
  obtain ⟨n, rfl | rfl⟩ := h
  · exact hu.of_eq (fun _ => rfl) (fun _ => rfl) rfl
  · exact enterBeacon_enginesLaw (hu.of_eq (t := { u with choices := n }) (fun _ => rfl) (fun _ => rfl) rfl)

theorem takeStepInto_enginesLaw {s : State} (hs : EnginesLaw s) (r : RecordId) (a : StepArgs) :
    EnginesLaw (s.takeStepInto r a) := by
  obtain ⟨hstartup, hengine, harbiter⟩ := hs
  have hframe := takeStepInto_stepFrame s r a
  have hstate : ∀ j, ((s.takeStepInto r a).lane j).state = (s.lane j).state := fun j => by
    rw [takeStepInto_lane]
    split <;> rfl
  have harb : Arbitrated s (s.takeStepInto r a) := Arbitrated.of_each hstate (fun _ _ j hfit => by
    rw [takeStepInto_lane]
    split
    · rename_i hpending
      have hbound : (s.lane j).state = .bound := by
        by_contra hne
        have hskipped := hpending.2
        rw [Lane.takeOutcome, if_pos hne] at hskipped
        cases hskipped
      refine ⟨hfit.1, fun h => ?_, fun h => absurd hbound h⟩
      exact absurd ((servesOwn_of_bound hbound).symm.trans h) (by decide)
    · exact hfit) fun k hk => by
    rw [State.instrument, hframe]
    exact hk
  exact ⟨hstartup.of_states (by rw [hframe]; exact id) hstate, harb hengine harbiter⟩

theorem Cleared.enginesLaw {t : State} (h : Cleared t) : EnginesLaw t := by
  refine ⟨fun _ => h.off, fun j => ?_, fun k => ?_⟩
  · obtain ⟨seat, line, hlane⟩ := h.lanes j
    rw [hlane]
    exact ⟨fun _ => ⟨rfl, rfl⟩, fun _ => ⟨rfl, rfl, rfl⟩, fun _ => rfl⟩
  · rw [h.instruments]
    exact ⟨fun i hi => (by cases hi), fun i hi => (by simp [Instrument.reset, inSet] at hi),
      fun i hi => (by simp [Instrument.reset, inSet] at hi), fun _ => rfl, fun _ => rfl⟩

theorem finishOrder_enginesLaw {s : State} (hs : EnginesLaw s) (o : Order) (b : AnswerBody) :
    EnginesLaw (s.finishOrder o b) := hs.of_eq (fun _ => rfl) (fun _ => rfl) rfl

theorem taken_enginesLaw {s : State} (hs : EnginesLaw s) (o : Order) (rest : List Order) :
    EnginesLaw (s.taken o rest) := hs.of_eq (fun _ => rfl) (fun _ => rfl) rfl

theorem Course.enginesLaw {s t : State} (h : Course c E s t) (hE : E) (hs : EnginesLaw s) : EnginesLaw t := by
  cases h with
  | deed h => exact h.enginesLaw hE hs
  | answered _ _ hdeed hbeacon =>
    exact finishOrder_enginesLaw (hbeacon.enginesLaw (hdeed.enginesLaw hE (taken_enginesLaw hs _ _))) _ _
  | @stepTaken o rest a r _ _ _ _ _ _ _ _ _ _ _ _ _ _ _ hbeacon =>
    have htaken := takeStepInto_enginesLaw (taken_enginesLaw hs o rest) r a
    exact finishOrder_enginesLaw (hbeacon.enginesLaw ((closingCheck_work _ _).enginesLaw htaken)) _ _
  | beacon => exact enterBeacon_enginesLaw hs
  | report => exact startReport_enginesLaw hs
  | poweredOn => exact (poweredOn_cleared s _ _).enginesLaw
  | reset => exact (resetByOrder_cleared _ _).enginesLaw

/-- Settles O59: by the acts of the step's course, each of which keeps the three laws together: the loss of a lane needs
the instrument law, a waiting list the engine law, and a lane that leaves OFF the STARTUP law. -/
theorem everyStepKeepsEnginesAndInstruments : Obligations.EveryStepKeepsEnginesAndInstruments := by
  unfold Obligations.EveryStepKeepsEnginesAndInstruments
  intro s t hstartup hengine harbiter h
  have hs : EnginesLaw s := ⟨hstartup, hengine, harbiter⟩
  exact (step_course h).enginesLaw hs (hs.of_eq (fun _ => rfl) (fun _ => rfl) rfl)

end Sys2Proof
end

section
/-! PROOFS of O60: the step table and the outstanding lists along the course of a step. -/

namespace Sys2Proof

open Sys2Proof.Machine

variable {c : Option Instr} {E : Prop}

/-! ### What the laws of steps see -/

/-- The step table and the outstanding lists are in agreement (R51, R60, R68). -/
def Agreed (s : State) : Prop := TableLaw s ∧ OwingLaw s

/-- The ID of a record's step while it is OPEN or CLOSING. -/
def Machine.StepRecord.carried (n : StepRecord) : Option Half := if n.state = .free then none else n.stepId

theorem carriedIds_eq (s : State) : carriedIds s = (List.finRange 32).filterMap fun r => (s.record r).carried := rfl

/-- The steps of `t` and the SUMMARYs that entered since `s` are the steps of `s`. -/
def Carried (s t : State) : Prop :=
  ∃ entered : List SummaryBody, summariesOf t.bulk = summariesOf s.bulk ++ entered
    ∧ (carriedIds t ++ entered.map SummaryBody.stepId).Perm (carriedIds s)

/-- Agreement is kept, and no step is lost or summarised twice. -/
def Stepped (s t : State) : Prop := Agreed s → Agreed t ∧ Carried s t

theorem Carried.trans {s t u : State} (h : Carried s t) (g : Carried t u) : Carried s u := by
  obtain ⟨e, hsum, hperm⟩ := h
  obtain ⟨e', hsum', hperm'⟩ := g
  refine ⟨e ++ e', by rw [hsum', hsum, List.append_assoc], ?_⟩
  rw [List.map_append]
  calc carriedIds u ++ (e.map SummaryBody.stepId ++ e'.map SummaryBody.stepId)
      |>.Perm (carriedIds u ++ (e'.map SummaryBody.stepId ++ e.map SummaryBody.stepId)) :=
        List.Perm.append_left _ List.perm_append_comm
    _ |>.Perm (carriedIds t ++ e.map SummaryBody.stepId) := by
        rw [← List.append_assoc]; exact hperm'.append_right _
    _ |>.Perm (carriedIds s) := hperm

theorem Carried.of_eq {s t : State} (hsum : summariesOf t.bulk = summariesOf s.bulk)
    (hids : carriedIds t = carriedIds s) : Carried s t :=
  ⟨[], by rw [hsum, List.append_nil], by rw [hids, List.map_nil, List.append_nil]⟩

theorem Stepped.trans {s t u : State} (h : Stepped s t) (g : Stepped t u) : Stepped s u := fun hs =>
  ⟨(g (h hs).1).1, (h hs).2.trans (g (h hs).1).2⟩

/-- The same steps, as the laws see them. -/
structure SameSteps (s t : State) : Prop where
  records : ∀ r, RecordKept (s.record r) (t.record r)
  freeOrder : t.freeOrder = s.freeOrder
  closing : t.closing = s.closing
  outstanding : ∀ j, (t.lane j).outstanding = (s.lane j).outstanding
  summaries : summariesOf t.bulk = summariesOf s.bulk

theorem TableLaw.of_eq {s t : State} (h : TableLaw s) (hstate : ∀ r, (t.record r).state = (s.record r).state)
    (hid : ∀ r, (t.record r).stepId = (s.record r).stepId) (hfree : t.freeOrder = s.freeOrder)
    (hclosing : t.closing = s.closing) : TableLaw t := by
  constructor
  · simp only [hfree, hstate]; exact h.free
  · simp only [hclosing, hstate]; exact h.closing
  · simp only [hid, hstate]; exact h.ids
  · simp only [hid, hstate]; exact h.distinct

theorem carriedIds_congr {s t : State} (hstate : ∀ r, (t.record r).state = (s.record r).state)
    (hid : ∀ r, (t.record r).stepId = (s.record r).stepId) : carriedIds t = carriedIds s := by
  simp only [carriedIds, hstate, hid]

theorem SameSteps.stepped {s t : State} (h : SameSteps s t) : Stepped s t := by
  rintro ⟨htable, howing⟩
  have hstate := fun r => (h.records r).state
  have hid := fun r => (h.records r).stepId
  refine ⟨⟨htable.of_eq hstate hid h.freeOrder h.closing, fun j => ?_⟩,
    .of_eq h.summaries (carriedIds_congr hstate hid)⟩
  simp only [h.outstanding, hstate, hid, fun r => (h.records r).owes]
  exact howing j

/-! ### A member that no longer owes -/

/-- A member of an OPEN step takes an outcome, and its lane's entry goes. -/
theorem answered_stepped {s : State} {r : RecordId} {i : LaneId} {o : MemberOutcome} (ho : o.owing = false)
    (hopen : (s.record r).state = .opened) (howes : (s.record r).owes i = true) :
    Stepped s ((s.setOutcome r i o).updLane i fun l => l.dropEntry r) := by
  rintro ⟨htable, howing⟩
  let t := (s.setOutcome r i o).updLane i fun l => l.dropEntry r
  show Agreed t ∧ Carried s t
  have hset : s.setOutcome r i o = s.updRecord r fun n => n.updMember i fun m => { m with outcome := o } := by
    simp [State.setOutcome, hopen, howes]
  have hrecord : ∀ q, t.record q =
      if q = r then (s.record r).updMember i fun m => { m with outcome := o } else s.record q := fun q => by
    rw [State.record_updLane, hset, State.record_updRecord]
  have hstate : ∀ q, (t.record q).state = (s.record q).state := fun q => by
    rw [hrecord]; split
    · subst_vars; rfl
    · rfl
  have hid : ∀ q, (t.record q).stepId = (s.record q).stepId := fun q => by
    rw [hrecord]; split
    · subst_vars; rfl
    · rfl
  have howes' : ∀ q j, (t.record q).owes j = if q = r ∧ j = i then false else (s.record q).owes j := fun q j => by
    rw [hrecord]
    by_cases hq : q = r
    · subst hq
      rw [if_pos rfl, owes_eq_any, owes_eq_any, Fin.getElem_fin, updMember_getElem]
      by_cases hj : j = i
      · subst hj; simp [Option.any_map, ho]
      · simp [hj]
    · simp [hq]
  have hout : ∀ j, (t.lane j).outstanding =
      if j = i then (s.lane i).outstanding.filter fun e => e.record ≠ r else (s.lane j).outstanding := fun j => by
    rw [State.lane_updLane]
    split
    · rw [setOutcome_lane]; rfl
    · rw [setOutcome_lane]
  have hbulk : t.bulk = s.bulk := by rw [State.updLane_bulk, hset]; rfl
  have hlists : t.freeOrder = s.freeOrder ∧ t.closing = s.closing := by
    rw [State.updLane_freeOrder, State.updLane_closing, hset]; exact ⟨rfl, rfl⟩
  refine ⟨⟨htable.of_eq hstate hid hlists.1 hlists.2, fun j => ?_⟩,
    .of_eq (by rw [hbulk]) (carriedIds_congr hstate hid)⟩
  obtain ⟨hentry, hnodup, hall⟩ := howing j
  simp only [hout, hstate, hid, howes']
  by_cases hj : j = i
  · subst hj
    simp only [if_true, and_true]
    refine ⟨fun e he => ?_, ?_, fun q hq hqi => ?_⟩
    · obtain ⟨hmem, hne⟩ := List.mem_filter.1 he
      rw [if_neg (of_decide_eq_true hne)]
      exact hentry e hmem
    · exact hnodup.sublist (List.filter_sublist.map _)
    · by_cases hqr : q = r
      · rw [if_pos hqr] at hqi; cases hqi
      · rw [if_neg hqr] at hqi
        obtain ⟨e, he, heq⟩ := hall q hq hqi
        exact ⟨e, List.mem_filter.2 ⟨he, decide_eq_true (heq ▸ hqr)⟩, heq⟩
  · simp only [hj, if_false, and_false]
    exact ⟨hentry, hnodup, hall⟩

/-! ### A step that closes -/

/-- Records that agree beside one carry the same IDs beside its own. -/
theorem carriedIds_perm {s t : State} (r : RecordId) (h : ∀ q, q ≠ r → (t.record q).carried = (s.record q).carried) :
    ∃ l, (carriedIds s).Perm ((s.record r).carried.toList ++ l)
      ∧ (carriedIds t).Perm ((t.record r).carried.toList ++ l) := by
  have hperm := List.perm_cons_erase (List.mem_finRange r)
  have hsplit : ∀ u : State, (carriedIds u).Perm ((u.record r).carried.toList
      ++ ((List.finRange 32).erase r).filterMap fun q => (u.record q).carried) := fun u => by
    rw [carriedIds_eq]
    refine (hperm.filterMap fun q => (u.record q).carried).trans (List.Perm.of_eq ?_)
    rw [List.filterMap_cons]
    cases hr : (u.record r).carried <;> rfl
  refine ⟨_, hsplit s, ?_⟩
  have hrest : ((List.finRange 32).erase r).filterMap (fun q => (t.record q).carried)
      = ((List.finRange 32).erase r).filterMap fun q => (s.record q).carried :=
    List.filterMap_congr fun q hq => h q (((List.nodup_finRange 32).mem_erase_iff.1 hq).1)
  rw [← hrest]
  exact hsplit t

/-- A step whose summary enters leaves the carried IDs. -/
theorem carried_of_freed {s t : State} {r : RecordId} {id : Half} (hs : (s.record r).carried = some id)
    (ht : (t.record r).carried = none) (h : ∀ q, q ≠ r → (t.record q).carried = (s.record q).carried) :
    (carriedIds t ++ [id]).Perm (carriedIds s) := by
  obtain ⟨l, hls, hlt⟩ := carriedIds_perm r h
  rw [hs] at hls
  rw [ht] at hlt
  exact (hlt.append_right _).trans (List.perm_append_comm.trans hls.symm)

theorem carried_of_ne_free {n : StepRecord} (h : n.state ≠ .free) : n.carried = n.stepId := if_neg h

/-- A record that leaves the carried IDs under the SUMMARY of its ID. -/
theorem carried_of_summary {s t : State} {r : RecordId} {b : SummaryBody} (htable : TableLaw s)
    (hused : (s.record r).state ≠ .free) (hfree : (t.record r).state = .free)
    (hothers : ∀ q, q ≠ r → t.record q = s.record q) (hbulk : t.bulk = s.bulk ++ [.summary b])
    (hb : b.stepId = (s.record r).stepId.getD 0#16) : Carried s t := by
  refine ⟨[b], by rw [hbulk, summariesOf_append]; rfl, ?_⟩
  obtain ⟨id, hid⟩ := Option.ne_none_iff_exists'.1 (htable.ids r hused).1
  have hsid : (s.record r).carried = some id := (carried_of_ne_free hused).trans hid
  rw [List.map_singleton, hb, hid]
  exact carried_of_freed hsid (if_pos hfree) fun q hq => by rw [hothers q hq]

/-- The table where one record that is not FREE became FREE and joined the free order, leaving the closing list if it
was there. -/
theorem TableLaw.freed {s t : State} {r : RecordId} (h : TableLaw s) (hused : (s.record r).state ≠ .free)
    (hstate : (t.record r).state = .free) (hothers : ∀ q, q ≠ r → t.record q = s.record q)
    (hfree : t.freeOrder = s.freeOrder ++ [r]) (hclosing : t.closing.Nodup)
    (hmem : ∀ q, q ∈ t.closing ↔ q ∈ s.closing ∧ q ≠ r) : TableLaw t := by
  have hne : ∀ q, (t.record q).state ≠ .free → q ≠ r := fun q hq hqr => hq (hqr ▸ hstate)
  have hfresh : r ∉ s.freeOrder := fun hr => hused ((h.free.2 r).1 hr)
  constructor
  · rw [hfree]
    refine ⟨List.nodup_append.2 ⟨h.free.1, List.nodup_singleton r, ?_⟩, fun q => ?_⟩
    · rintro a ha b hb rfl
      exact hfresh (List.mem_singleton.1 hb ▸ ha)
    · rw [List.mem_append, List.mem_singleton]
      by_cases hq : q = r
      · subst hq; simp [hstate]
      · rw [hothers q hq, h.free.2 q]; simp [hq]
  · refine ⟨hclosing, fun q => ?_⟩
    rw [hmem]
    by_cases hq : q = r
    · subst hq; simp [hstate]
    · rw [hothers q hq, h.closing.2 q]; simp [hq]
  · intro q hq
    have hsame := hothers q (hne q hq)
    rw [hsame] at hq ⊢
    exact h.ids q hq
  · intro q q' hqq hq hq'
    have hsame := hothers q (hne q hq)
    have hsame' := hothers q' (hne q' hq')
    rw [hsame] at hq ⊢
    rw [hsame'] at hq' ⊢
    exact h.distinct q q' hqq hq hq'

/-- An OPEN record nobody owes, or one that is not OPEN, closes or goes free: no outstanding list names it. -/
theorem OwingLaw.closed {s t : State} {r : RecordId} (h : OwingLaw s) (hnone : ∀ j, (s.record r).state = .opened →
      (s.record r).owes j = false) (hclosed : (t.record r).state ≠ .opened)
    (hothers : ∀ q, q ≠ r → t.record q = s.record q) (hlane : ∀ j, t.lane j = s.lane j) : OwingLaw t := by
  intro j
  obtain ⟨hentry, hnodup, hall⟩ := h j
  rw [hlane]
  refine ⟨fun e he => ?_, hnodup, fun q hq hqj => ?_⟩
  · obtain ⟨hopen, hid, howes⟩ := hentry e he
    have hne : e.record ≠ r := by
      rintro rfl
      exact Bool.false_ne_true ((hnone j hopen).symm.trans howes)
    rw [hothers _ hne]
    exact ⟨hopen, hid, howes⟩
  · have hne : q ≠ r := by rintro rfl; exact hclosed hq
    rw [hothers _ hne] at hq hqj
    exact hall q hq hqj

theorem enterSummary_stepped (s : State) : Stepped s s.enterSummary := by
  rintro ⟨htable, howing⟩
  rcases enterSummary_cases s with ⟨r, rest, hlist, -, h⟩ | ⟨-, h⟩
  · let t := s.enterSummary
    have hclosing : (s.record r).state = .closing := (htable.closing.2 r).1 (by rw [hlist]; exact List.mem_cons_self)
    have hused : (s.record r).state ≠ .free := by rw [hclosing]; decide
    have hrecord : ∀ q, t.record q = (s.updRecord r fun n => { n with state := .free }).record q := fun q => by
      simp only [t, h, State.record]
    have hself : (t.record r).state = .free := by rw [hrecord, State.record_updRecord_self]
    have hothers : ∀ q, q ≠ r → t.record q = s.record q := fun q hq => by
      rw [hrecord, State.record_updRecord_of_ne _ _ hq]
    have hnodup := htable.closing.1
    rw [hlist, List.nodup_cons] at hnodup
    refine ⟨⟨htable.freed hused hself hothers (by rw [h]) (by rw [h]; exact hnodup.2) fun q => ?_,
      howing.closed (fun j hopen => ?_) (by rw [hself]; decide) hothers (enterSummary_lane s)⟩,
      carried_of_summary htable hused hself hothers (by rw [h]) rfl⟩
    · rw [h, hlist, List.mem_cons]
      show q ∈ rest ↔ _
      constructor
      · exact fun hq => ⟨.inr hq, fun hqr => hnodup.1 (hqr ▸ hq)⟩
      · rintro ⟨hq | hq, hne⟩
        · exact absurd hq hne
        · exact hq
    · rw [hclosing] at hopen; cases hopen
  · rw [h]; exact ⟨⟨htable, howing⟩, .of_eq rfl rfl⟩

/-- The table where one OPEN record became CLOSING and joined the closing list. -/
theorem TableLaw.closes {s t : State} {r : RecordId} (h : TableLaw s) (hopen : (s.record r).state = .opened)
    (hstate : (t.record r).state = .closing) (hid : (t.record r).stepId = (s.record r).stepId)
    (hothers : ∀ q, q ≠ r → t.record q = s.record q) (hfree : t.freeOrder = s.freeOrder)
    (hclosing : t.closing = s.closing ++ [r]) : TableLaw t := by
  have hused : ∀ q, (t.record q).state ≠ .free → (s.record q).state ≠ .free ∧
      (t.record q).stepId = (s.record q).stepId := fun q hq => by
    by_cases hqr : q = r
    · subst hqr; exact ⟨by rw [hopen]; decide, hid⟩
    · rw [hothers q hqr] at hq ⊢; exact ⟨hq, rfl⟩
  have hfresh : r ∉ s.closing := fun hr => by
    rw [(h.closing.2 r).1 hr] at hopen; cases hopen
  constructor
  · rw [hfree]
    refine ⟨h.free.1, fun q => ?_⟩
    by_cases hq : q = r
    · subst hq; rw [h.free.2 q, hopen, hstate]; decide
    · rw [hothers q hq, h.free.2 q]
  · rw [hclosing]
    refine ⟨List.nodup_append.2 ⟨h.closing.1, List.nodup_singleton r, ?_⟩, fun q => ?_⟩
    · rintro a ha b hb rfl
      exact hfresh (List.mem_singleton.1 hb ▸ ha)
    · rw [List.mem_append, List.mem_singleton]
      by_cases hq : q = r
      · subst hq; simp [hstate]
      · rw [hothers q hq, h.closing.2 q]; simp [hq]
  · intro q hq
    rw [(hused q hq).2]
    exact h.ids q (hused q hq).1
  · intro q q' hqq hq hq'
    rw [(hused q hq).2, (hused q' hq').2]
    exact h.distinct q q' hqq (hused q hq).1 (hused q' hq').1

theorem owing_eq_nil_iff {n : StepRecord} : n.owing = [] ↔ ∀ j, n.owes j = false := by
  simp [StepRecord.owing, List.filter_eq_nil_iff, mem_laneIds]

/-- An OPEN step that nobody owes closes (R60, R67). -/
theorem closeStep_stepped {s : State} {r : RecordId} (cause : CloseCause) (hopen : (s.record r).state = .opened)
    (hnone : ∀ j, (s.record r).owes j = false) : Stepped s (s.closeStep r cause) := by
  rintro ⟨htable, howing⟩
  have hself := closeStep_record_self s r cause
  have hothers : ∀ q, q ≠ r → (s.closeStep r cause).record q = s.record q := fun q hq =>
    closeStep_record_of_ne s cause hq
  have hlists := closeStep_lists s r cause
  have hlane := closeStep_lane s r cause
  generalize s.closeStep r cause = t at *
  have hused : (s.record r).state ≠ .free := by rw [hopen]; decide
  have hid : (t.record r).stepId = (s.record r).stepId := by rw [hself]
  by_cases hroom : s.closing = [] ∧ s.bulk.length < 64
  · rw [if_pos hroom] at hlists
    obtain ⟨hclosing, hfree, hbulk⟩ := hlists
    have hstate : (t.record r).state = .free := by rw [hself, if_pos hroom]
    refine ⟨⟨htable.freed hused hstate hothers hfree (by rw [hclosing]; exact List.nodup_nil) fun q => ?_,
      howing.closed (fun j _ => hnone j) (by rw [hstate]; decide) hothers hlane⟩,
      carried_of_summary htable hused hstate hothers hbulk ?_⟩
    · rw [hclosing, hroom.1]; simp
    · rw [← hid]; rfl
  · rw [if_neg hroom] at hlists
    obtain ⟨hclosing, hfree, hbulk⟩ := hlists
    have hstate : (t.record r).state = .closing := by rw [hself, if_neg hroom]
    refine ⟨⟨htable.closes hopen hstate hid hothers hfree hclosing,
      howing.closed (fun j _ => hnone j) (by rw [hstate]; decide) hothers hlane⟩, .of_eq (by rw [hbulk]) ?_⟩
    rw [carriedIds_eq, carriedIds_eq]
    refine List.filterMap_congr fun q _ => ?_
    by_cases hq : q = r
    · subst hq
      rw [carried_of_ne_free hused, carried_of_ne_free (by rw [hstate]; decide), hid]
    · rw [hothers q hq]

theorem closingCheck_stepped (s : State) (r : RecordId) : Stepped s (s.closingCheck r) := by
  unfold State.closingCheck
  split
  · rename_i h
    exact closeStep_stepped .complete h.1 (owing_eq_nil_iff.1 h.2)
  · exact fun hs => ⟨hs, .of_eq rfl rfl⟩

/-! ### Entries lost, and a step that ends -/

/-- An entry lost (R82, R83). -/
theorem loseEntry_stepped {s : State} {i : LaneId} {o : MemberOutcome} {e : OutEntry} (ho : o.owing = false)
    (he : e ∈ (s.lane i).outstanding) : Stepped s (State.loseEntry i o s e) := by
  intro hs
  obtain ⟨hopen, -, howes⟩ := (hs.2 i).1 e he
  exact (answered_stepped ho hopen howes).trans (closingCheck_stepped _ e.record) hs

/-- Entries lost one after another. -/
theorem foldl_loseEntry_stepped {i : LaneId} {o : MemberOutcome} (ho : o.owing = false) (l : List OutEntry)
    {s : State} (hl : ∀ e ∈ l, e ∈ (s.lane i).outstanding) (hnodup : (l.map OutEntry.record).Nodup) :
    Stepped s (l.foldl (State.loseEntry i o) s) := by
  induction l generalizing s with
  | nil => exact fun hs => ⟨hs, .of_eq rfl rfl⟩
  | cons e l ih =>
    rw [List.map_cons, List.nodup_cons] at hnodup
    refine (loseEntry_stepped ho (hl e List.mem_cons_self)).trans (ih (fun x hx => ?_) hnodup.2)
    rw [loseEntry_lane, if_pos rfl]
    refine List.mem_filter.2 ⟨hl x (List.mem_cons_of_mem _ hx), decide_eq_true fun h => ?_⟩
    exact hnodup.1 (h ▸ List.mem_map_of_mem hx)

theorem loseEntries_stepped {s : State} {i : LaneId} {o : MemberOutcome} (ho : o.owing = false) :
    Stepped s (s.loseEntries i o) := fun hs =>
  foldl_loseEntry_stepped ho _ (fun _ h => h) (hs.2 i).2.1 hs

/-- The loss of a lane: what follows the loss of its entries leaves the step table and the outstanding lists. -/
theorem lost_sameSteps {s : State} {i : LaneId} {o : MemberOutcome} {g h : Lane → Lane} (hlost : LaneLost E s i g h) :
    SameSteps (s.loseEntries i o) ((afterLane s i o g).updLane i h) := by
  have hframe : ArbiterFrame ((s.loseEntries i o).updLane i g) (afterLane s i o g) := loseInstruments_frame _ i
  refine ⟨fun r => ?_, ?_, ?_, fun j => ?_, ?_⟩
  · rw [State.record_updLane, State.record, hframe]
    exact .refl _
  · rw [State.updLane_freeOrder, hframe]; rfl
  · rw [State.updLane_closing, hframe]; rfl
  · rw [loseEntries_lane]
    by_cases hj : j = i
    · subst hj
      obtain ⟨x, hx⟩ := lost_lane_self s j o g h
      rw [hx, if_pos rfl]
      exact hlost.outstanding x
    · obtain ⟨x, hx⟩ := lost_lane_of_ne s o g h hj
      rw [hx, if_neg hj]
  · rw [State.updLane_bulk, afterLane_bulk]

theorem endOwing_record_self (r : RecordId) (o : MemberOutcome) (s : State) (i : LaneId)
    (hopen : (s.record r).state = .opened) :
    ((State.endOwing r o s i).record r).state = .opened
      ∧ (o.owing = false → ∀ j, ((State.endOwing r o s i).record r).owes j =
        (if j = i then false else (s.record r).owes j)) := by
  unfold State.endOwing
  by_cases howes : (s.record r).owes i = true
  · have hset : s.setOutcome r i o = s.updRecord r fun n => n.updMember i fun m => { m with outcome := o } := by
      simp [State.setOutcome, hopen, howes]
    rw [if_pos howes, State.record_updLane, hset, State.record_updRecord_self]
    refine ⟨hopen, fun ho j => ?_⟩
    rw [owes_eq_any, owes_eq_any, Fin.getElem_fin, updMember_getElem]
    by_cases hj : j = i
    · subst hj; simp [Option.any_map, ho]
    · simp [hj]
  · rw [if_neg howes]
    refine ⟨hopen, fun _ j => ?_⟩
    by_cases hj : j = i
    · subst hj; simpa using howes
    · rw [if_neg hj]

theorem endOwing_stepped {r : RecordId} {o : MemberOutcome} (ho : o.owing = false) {s : State} (i : LaneId)
    (hopen : (s.record r).state = .opened) : Stepped s (State.endOwing r o s i) := by
  unfold State.endOwing
  split
  · exact answered_stepped ho hopen ‹_›
  · exact fun hs => ⟨hs, .of_eq rfl rfl⟩

/-- Every owing member of a list of lanes takes the outcome, and then owes no more. -/
theorem foldl_endOwing {r : RecordId} {o : MemberOutcome} (ho : o.owing = false) (l : List LaneId) {s : State}
    (hopen : (s.record r).state = .opened) :
    Stepped s (l.foldl (State.endOwing r o) s)
      ∧ ((l.foldl (State.endOwing r o) s).record r).state = .opened
      ∧ ∀ j, j ∈ l ∨ (s.record r).owes j = false →
        ((l.foldl (State.endOwing r o) s).record r).owes j = false := by
  induction l generalizing s with
  | nil => exact ⟨fun hs => ⟨hs, .of_eq rfl rfl⟩, hopen, fun j hj => hj.elim (fun h => by cases h) id⟩
  | cons i l ih =>
    obtain ⟨hstate, howes⟩ := endOwing_record_self r o s i hopen
    obtain ⟨hstep, hopen', hnone⟩ := ih hstate
    refine ⟨(endOwing_stepped ho i hopen).trans hstep, hopen', fun j hj => hnone j ?_⟩
    rw [howes ho]
    by_cases hji : j = i
    · exact .inr (if_pos hji)
    · rw [if_neg hji]
      rcases hj with hj | hj
      · exact .inl ((List.mem_cons.1 hj).resolve_left hji)
      · exact .inr hj

theorem removeUnsent_sameSteps (r : RecordId) (s : State) (i : LaneId) : SameSteps s (State.removeUnsent r s i) := by
  unfold State.removeUnsent
  split
  · refine ⟨fun _ => .refl _, rfl, rfl, fun j => ?_, rfl⟩
    rw [State.lane_updLane]
    split
    · subst_vars; rfl
    · rfl
  · exact ⟨fun _ => .refl _, rfl, rfl, fun _ => rfl, rfl⟩

theorem SameSteps.refl (s : State) : SameSteps s s := ⟨fun _ => .refl _, rfl, rfl, fun _ => rfl, rfl⟩

theorem SameSteps.trans {s t u : State} (h : SameSteps s t) (g : SameSteps t u) : SameSteps s u :=
  ⟨fun r => (h.records r).trans (g.records r), g.freeOrder.trans h.freeOrder, g.closing.trans h.closing,
    fun j => (g.outstanding j).trans (h.outstanding j), g.summaries.trans h.summaries⟩

/-- A step that ends by expiry or abort (R63, R64). -/
theorem endStep_stepped {s : State} {r : RecordId} {o : MemberOutcome} (cause : CloseCause)
    (hopen : (s.record r).state = .opened) (ho : o.owing = false) : Stepped s (s.endStep r o cause) := by
  obtain ⟨hstep, hopen', hnone⟩ := foldl_endOwing ho laneIds hopen
  let u := laneIds.foldl (State.endOwing r o) s
  have hsame : SameSteps u (laneIds.foldl (State.removeUnsent r) u) :=
    foldl_keeps SameSteps.refl SameSteps.trans (removeUnsent_sameSteps r) laneIds u
  refine (hstep.trans hsame.stepped).trans (closeStep_stepped cause ?_ fun j => ?_)
  · rw [(hsame.records r).state]; exact hopen'
  · rw [(hsame.records r).owes]; exact hnone j (.inl (mem_laneIds j))

/-! ### Acts and deeds -/

theorem Kept.sameSteps {s t : State} (h : Kept c s t) : SameSteps s t :=
  ⟨h.records, h.freeOrder, h.closing, fun j => (h.lanes j).outstanding, h.summaries⟩

/-- A lane that keeps its entries. -/
theorem updLane_sameSteps {s : State} {i : LaneId} {f : Lane → Lane}
    (hf : (f (s.lane i)).outstanding = (s.lane i).outstanding) : SameSteps s (s.updLane i f) := by
  refine ⟨fun _ => .refl _, rfl, rfl, fun j => ?_, rfl⟩
  rw [State.lane_updLane]
  split
  · subst_vars; exact hf
  · rfl

theorem Act.stepped {s t : State} (h : Act c E s t) : Stepped s t := by
  cases h with
  | kept hkept => exact hkept.sameSteps.stepped
  | moved hmoved => exact (updLane_sameSteps hmoved.outstanding).stepped
  | lost ho hlost => exact (loseEntries_stepped ho).trans (lost_sameSteps hlost).stepped
  | entryLost ho he => exact loseEntry_stepped ho he
  | ended hopen ho => exact endStep_stepped _ hopen ho
  | summary => exact enterSummary_stepped s

theorem Acts.stepped {s t : State} (h : Acts c E s t) : Stepped s t := by
  induction h with
  | refl => exact fun hs => ⟨hs, .of_eq rfl rfl⟩
  | tail _ hact ih => exact ih.trans hact.stepped

theorem bindOrHold_sameSteps (s : State) (i : LaneId) (id : List Byte) : SameSteps s (s.bindOrHold i id) := by
  have hrecord : ∀ (f : Lane → Lane) (k : EventKind), (f (s.lane i)).outstanding = (s.lane i).outstanding →
      SameSteps s ((s.updLane i f).recordEvent i k) := fun f k hf =>
    (updLane_sameSteps hf).trans ((recordEvent_besides _ i k).kept none).sameSteps
  unfold State.bindOrHold
  split
  · exact hrecord _ _ rfl
  · exact hrecord _ _ rfl

theorem Deed.stepped {s t : State} (h : Deed c E s t) : Stepped s t := by
  cases h with
  | acts h => exact h.stepped
  | binds h => exact h.stepped.trans (bindOrHold_sameSteps _ _ _).stepped

end Sys2Proof
end

section
/-! PROOFS of O60, second part: a step taken, and the whole course. -/

namespace Sys2Proof

open Sys2Proof.Machine

variable {c : Option Instr} {E : Prop}

/-! ### A step taken (R56) -/

theorem forget_state (n : StepRecord) (id : Half) : (n.forget id).state = n.state := by
  unfold StepRecord.forget
  split <;> rfl

theorem forget_owes (n : StepRecord) (id : Half) (j : LaneId) : (n.forget id).owes j = n.owes j := by
  unfold StepRecord.forget
  split <;> rfl

theorem forget_stepId_of_ne_free {n : StepRecord} (h : n.state ≠ .free) (id : Half) :
    (n.forget id).stepId = n.stepId := by
  rw [StepRecord.forget, if_neg fun hf => h hf.1]

theorem forget_carried (n : StepRecord) (id : Half) : (n.forget id).carried = n.carried := by
  unfold StepRecord.carried
  rw [forget_state]
  split
  · rfl
  · exact forget_stepId_of_ne_free ‹_› id

/-- Only a PENDING member of a step just taken owes. -/
theorem takeOutcome_owing_iff {l : Lane} : l.takeOutcome.owing = true ↔ l.takeOutcome = .pending := by
  unfold Lane.takeOutcome
  split
  · decide
  · split <;> decide

section

variable {s : State} {r : RecordId} {free : List RecordId} {a : StepArgs}

theorem takeStepInto_freeOrder (s : State) (r : RecordId) (a : StepArgs) :
    (s.takeStepInto r a).freeOrder = s.freeOrder.tail ∧ (s.takeStepInto r a).closing = s.closing
      ∧ (s.takeStepInto r a).bulk = s.bulk := by
  have hframe := (takeStepInto_laneMember s r a).1.state
  have hopen := openStep_frame s r a
  generalize s.takeStepInto r a = t at *
  generalize s.openStep r a = u at *
  rw [hframe, hopen]
  exact ⟨rfl, rfl, rfl⟩

theorem takeStepInto_tableLaw (h : TableLaw s) (hfree : s.freeOrder = r :: free) (hne : a.stepId ≠ 0#16)
    (hnew : s.idInUse a.stepId = false) : TableLaw (s.takeStepInto r a) := by
  obtain ⟨hlist, hclosing, -⟩ := takeStepInto_freeOrder s r a
  have hself := takeStepInto_record_self s r a
  have hothers := fun q (hq : q ≠ r) => takeStepInto_record_of_ne s a hq
  generalize s.takeStepInto r a = t at *
  have hrfree : (s.record r).state = .free := (h.free.2 r).1 (by rw [hfree]; exact List.mem_cons_self)
  have hnodup := h.free.1
  rw [hfree, List.nodup_cons] at hnodup
  have hrstate : (t.record r).state = .opened := by rw [hself]; rfl
  have hrid : (t.record r).stepId = some a.stepId := by rw [hself]; rfl
  have hstate : ∀ q, q ≠ r → (t.record q).state = (s.record q).state := fun q hq => by
    rw [hothers q hq, forget_state]
  have hid : ∀ q, q ≠ r → (t.record q).state ≠ .free → (s.record q).state ≠ .free
      ∧ (t.record q).stepId = (s.record q).stepId := fun q hq hused => by
    rw [hstate q hq] at hused
    exact ⟨hused, by rw [hothers q hq, forget_stepId_of_ne_free hused]⟩
  have hfresh : ∀ q, (s.record q).state ≠ .free → (s.record q).stepId ≠ some a.stepId := by
    simpa [State.idInUse] using hnew
  constructor
  · rw [hlist, hfree, List.tail_cons]
    refine ⟨hnodup.2, fun q => ?_⟩
    by_cases hq : q = r
    · subst hq; rw [hrstate]; simp [hnodup.1]
    · rw [hstate q hq, ← h.free.2 q, hfree, List.mem_cons]; simp [hq]
  · rw [hclosing]
    refine ⟨h.closing.1, fun q => ?_⟩
    by_cases hq : q = r
    · subst hq; rw [h.closing.2 q, hrstate, hrfree]; decide
    · rw [hstate q hq, h.closing.2 q]
  · intro q hq
    by_cases hqr : q = r
    · subst hqr; rw [hrid]; exact ⟨by simp, fun h0 => hne (Option.some.inj h0)⟩
    · obtain ⟨hused, heq⟩ := hid q hqr hq
      rw [heq]
      exact h.ids q hused
  · intro q q' hqq hq hq'
    by_cases hqr : q = r
    · subst hqr
      obtain ⟨hused, heq⟩ := hid q' (Ne.symm hqq) hq'
      rw [hrid, heq]
      exact Ne.symm (hfresh q' hused)
    · obtain ⟨hused, heq⟩ := hid q hqr hq
      rw [heq]
      by_cases hqr' : q' = r
      · subst hqr'; rw [hrid]; exact hfresh q hused
      · obtain ⟨hused', heq'⟩ := hid q' hqr' hq'
        rw [heq']
        exact h.distinct q q' hqq hused hused'

theorem takeStepInto_owingLaw (h : OwingLaw s) (hrfree : (s.record r).state = .free) :
    OwingLaw (s.takeStepInto r a) := by
  have hself := takeStepInto_record_self s r a
  have hothers := fun q (hq : q ≠ r) => takeStepInto_record_of_ne s a hq
  have hlane := takeStepInto_lane s r a
  have howes : ∀ j, ((s.takeStepInto r a).record r).owes j = true ↔
      inSet (s.targetMembers a.target) j = true ∧ (s.lane j).takeOutcome = .pending := fun j => by
    rw [hself, owes_eq_any]
    simp only [Fin.getElem_fin, Vector.getElem_ofFn, Fin.eta]
    by_cases hin : inSet (s.targetMembers a.target) j = true
    · rw [if_pos hin, Option.any_some]
      simp only [Member.fresh, hin, true_and]
      exact takeOutcome_owing_iff
    · simp [hin]
  generalize s.takeStepInto r a = t at *
  have hrstate : (t.record r).state = .opened := by rw [hself]; rfl
  have hrid : (t.record r).stepId = some a.stepId := by rw [hself]; rfl
  intro j
  obtain ⟨hentry, hnodup, hall⟩ := h j
  have hold : ∀ e ∈ (s.lane j).outstanding, e.record ≠ r ∧ (t.record e.record).state = .opened
      ∧ (t.record e.record).stepId = some e.stepId ∧ (t.record e.record).owes j = true := fun e he => by
    obtain ⟨hopen, hid, howed⟩ := hentry e he
    have hne : e.record ≠ r := fun her => by rw [her, hrfree] at hopen; cases hopen
    refine ⟨hne, ?_⟩
    rw [hothers _ hne, forget_state, forget_owes, forget_stepId_of_ne_free (by rw [hopen]; decide)]
    exact ⟨hopen, hid, howed⟩
  have hback : ∀ q, q ≠ r → (t.record q).state = .opened → (t.record q).owes j = true →
      ∃ e ∈ (s.lane j).outstanding, e.record = q := fun q hq hopen howed => by
    rw [hothers q hq, forget_state] at hopen
    rw [hothers q hq, forget_owes] at howed
    exact hall q hopen howed
  rw [hlane]
  by_cases htaken : inSet (s.targetMembers a.target) j = true ∧ (s.lane j).takeOutcome = .pending
  · rw [if_pos htaken]
    have hout : ((s.lane j).takeStep r a).outstanding = (s.lane j).outstanding ++ [⟨a.stepId, r⟩] := rfl
    rw [hout]
    refine ⟨fun e he => ?_, ?_, fun q hq hqj => ?_⟩
    · rcases List.mem_append.1 he with he | he
      · exact (hold e he).2
      · rw [List.mem_singleton.1 he]
        exact ⟨hrstate, hrid, (howes j).2 htaken⟩
    · rw [List.map_append, List.nodup_append]
      refine ⟨hnodup, List.nodup_singleton r, ?_⟩
      rintro q hq q' hq' rfl
      obtain ⟨e, he, rfl⟩ := List.mem_map.1 hq
      exact (hold e he).1 (List.mem_singleton.1 hq')
    · by_cases hqr : q = r
      · exact ⟨⟨a.stepId, r⟩, List.mem_append_right _ (List.mem_singleton_self _), hqr.symm⟩
      · obtain ⟨e, he, heq⟩ := hback q hqr hq hqj
        exact ⟨e, List.mem_append_left _ he, heq⟩
  · rw [if_neg htaken]
    refine ⟨fun e he => (hold e he).2, hnodup, fun q hq hqj => hback q (fun hqr => ?_) hq hqj⟩
    rw [hqr] at hqj
    exact htaken ((howes j).1 hqj)

/-- The ID of a step taken joins the carried IDs. -/
theorem takeStepInto_carriedIds (hrfree : (s.record r).state = .free) :
    (carriedIds (s.takeStepInto r a)).Perm (carriedIds s ++ [a.stepId]) := by
  have hothers : ∀ q, q ≠ r → ((s.takeStepInto r a).record q).carried = (s.record q).carried := fun q hq => by
    rw [takeStepInto_record_of_ne s a hq, forget_carried]
  have hnew : ((s.takeStepInto r a).record r).carried = some a.stepId := by
    rw [takeStepInto_record_self]; rfl
  obtain ⟨l, hs, ht⟩ := carriedIds_perm r hothers
  have hold : (s.record r).carried = none := if_pos hrfree
  rw [hold] at hs
  rw [hnew] at ht
  exact ht.trans (List.perm_append_comm.trans (hs.symm.append_right _))

end

/-! ### The whole course -/

/-- What R87 asks of one step, the IDs of steps taken in it being `taken`. -/
def StepsAccounted (s t : State) (taken : List Half) : Prop :=
  ∃ entered : List SummaryBody,
    (summariesOf t.bulk = summariesOf s.bulk ++ entered ∨ (t.bulk = s.bulk.tail ∧ entered = []))
      ∧ (carriedIds t ++ entered.map SummaryBody.stepId).Perm (carriedIds s ++ taken)

theorem Carried.accounted {s t : State} (h : Carried s t) : StepsAccounted s t [] := by
  obtain ⟨entered, hsum, hperm⟩ := h
  exact ⟨entered, .inl hsum, by rw [List.append_nil]; exact hperm⟩

theorem enterBeacon_sameSteps (s : State) : SameSteps s s.enterBeacon := by
  have hrecord : ∀ r, s.enterBeacon.record r = s.record r := fun r => by
    rcases enterBeacon_cases s with ⟨-, -, h⟩ | ⟨-, h⟩ <;> simp only [h, State.record]
  refine ⟨fun r => by rw [hrecord]; exact .refl _, ?_, ?_, fun j => by rw [enterBeacon_lane], ?_⟩ <;>
    rcases enterBeacon_cases s with ⟨-, -, h⟩ | ⟨-, h⟩ <;> simp only [h]

theorem BeaconMayEnter.sameSteps {u v : State} (h : BeaconMayEnter u v) : SameSteps u v := by
  obtain ⟨n, rfl | rfl⟩ := h
  · exact ⟨fun _ => .refl _, rfl, rfl, fun _ => rfl, rfl⟩
  · have hchoice : SameSteps u { u with choices := n } := ⟨fun _ => .refl _, rfl, rfl, fun _ => rfl, rfl⟩
    exact hchoice.trans (enterBeacon_sameSteps _)

theorem taken_sameSteps (s : State) (o : Order) (rest : List Order) : SameSteps s (s.taken o rest) :=
  ⟨fun _ => .refl _, rfl, rfl, fun _ => rfl, rfl⟩

theorem answered_sameSteps {u v : State} (h : BeaconMayEnter u v) (o : Order) (b : AnswerBody) :
    SameSteps u (v.finishOrder o b) :=
  h.sameSteps.trans ⟨fun _ => .refl _, rfl, rfl, fun _ => rfl, rfl⟩

theorem startReport_agreed {s : State} (hs : Agreed s) : Agreed s.startReport ∧ StepsAccounted s s.startReport [] := by
  have hrecord : ∀ r, s.startReport.record r = s.record r := fun r => by
    rcases startReport_cases s with h | ⟨q, rest, line, -, h⟩ | ⟨q, rest, line, -, h⟩ <;>
      simp only [h, State.record]
  have hlists : s.startReport.freeOrder = s.freeOrder ∧ s.startReport.closing = s.closing := by
    rcases startReport_cases s with h | ⟨q, rest, line, -, h⟩ | ⟨q, rest, line, -, h⟩ <;>
      simp only [h, and_self]
  have hids : carriedIds s.startReport = carriedIds s :=
    carriedIds_congr (fun r => by rw [hrecord]) fun r => by rw [hrecord]
  refine ⟨⟨hs.1.of_eq (fun r => by rw [hrecord]) (fun r => by rw [hrecord]) hlists.1 hlists.2, fun j => ?_⟩, [], ?_, ?_⟩
  · simp only [startReport_lane, hrecord]; exact hs.2 j
  · rcases startReport_cases s with h | ⟨q, rest, line, -, h⟩ | ⟨q, rest, line, hq, h⟩ <;> rw [h]
    · exact .inl (List.append_nil _).symm
    · exact .inl (List.append_nil _).symm
    · exact .inr ⟨by rw [hq]; rfl, rfl⟩
  · rw [hids, List.map_nil]

theorem Cleared.agreed {t : State} (h : Cleared t) : Agreed t := by
  have hstate : ∀ r, (t.record r).state = .free := fun r => by rw [h.records]; rfl
  constructor
  · constructor
    · rw [h.lists.1]
      exact ⟨List.nodup_finRange 32, fun r => iff_of_true (List.mem_finRange r) (hstate r)⟩
    · rw [h.lists.2]
      exact ⟨List.nodup_nil, fun r => iff_of_false List.not_mem_nil (by rw [hstate]; decide)⟩
    · exact fun r hr => absurd (hstate r) hr
    · exact fun r _ _ hr => absurd (hstate r) hr
  · intro j
    obtain ⟨seat, line, hlane⟩ := h.lanes j
    have hout : (t.lane j).outstanding = [] := by rw [hlane]; rfl
    rw [hout]
    exact ⟨fun e he => (by cases he), List.nodup_nil, fun r hr => absurd ((hstate r).symm.trans hr) (by decide)⟩

/-- No step is taken where the ingress queue stands. -/
theorem takenId_of_ingress {s t : State} (h : t.ingress = s.ingress) : takenId s t = [] := by
  unfold takenId
  split
  · rename_i o rest _ _ _ _ _ _ _ _ hin _
    rw [h, hin, if_neg (List.cons_ne_self o rest)]
  · rfl

/-- Only a STEP command takes a step. -/
theorem takenId_of_command {s t : State} (h : s.pending.head? ≠ some .step) : takenId s t = [] := by
  unfold takenId
  split
  · rename_i hp _ _
    rw [hp] at h
    exact absurd rfl h
  · rfl

/-- No step is taken by a refused order. -/
theorem takenId_of_refused {s v : State} {o : Order} {code : RefusalCode} :
    takenId s (v.finishOrder o (.refused code)) = [] := by
  have hlast : (v.finishOrder o (.refused code)).urgent.getLast? = some (.answer o.number o.kind (.refused code)) :=
    List.getLast?_concat
  unfold takenId
  rw [hlast]
  split
  · rename_i heq; cases heq
  · rfl

theorem takenId_of_taken {s v : State} {o : Order} {rest : List Order} {more : List Instr} {deadline : Nat}
    {members pending skipped overrun : LaneSet} (hp : s.pending = .step :: more) (hin : s.ingress = o :: rest)
    (hv : v.ingress = rest) :
    takenId s (v.finishOrder o (.okStep deadline members pending skipped overrun)) = [halfAt o.body 0] := by
  have hlast : (v.finishOrder o (.okStep deadline members pending skipped overrun)).urgent.getLast? =
      some (.answer o.number o.kind (.okStep deadline members pending skipped overrun)) := List.getLast?_concat
  unfold takenId
  rw [hlast, hp, hin]
  exact if_pos hv

theorem BeaconMayEnter.ingress_eq {u v : State} (h : BeaconMayEnter u v) : v.ingress = u.ingress := by
  obtain ⟨n, rfl | rfl⟩ := h
  · rfl
  · rcases enterBeacon_cases { u with choices := n } with ⟨-, -, h⟩ | ⟨-, h⟩ <;> simp only [h]

/-- R51, R60 and R87 along the course of the step that takes the head of `s0`'s queue. -/
theorem Course.agreed {s s0 t : State} (h : Course c E s t) (hs : Agreed s) (h0 : s0.pending.head? = c)
    (hin0 : s0.ingress = s.ingress) :
    Agreed t ∧ ((∃ straps seats, c = some (.powerOn straps seats)) ∨ (∃ straps, c = some (.reset straps))
      ∨ StepsAccounted s t (takenId s0 t)) := by
  have hnone : ∀ v, takenId s0 v = [] → Agreed v ∧ StepsAccounted s v [] → Agreed v
      ∧ ((∃ straps seats, c = some (.powerOn straps seats)) ∨ (∃ straps, c = some (.reset straps))
        ∨ StepsAccounted s v (takenId s0 v)) := fun v hv hagreed =>
    ⟨hagreed.1, .inr (.inr (by rw [hv]; exact hagreed.2))⟩
  cases h with
  | deed hdeed hingress =>
    obtain ⟨hagreed, hcarried⟩ := hdeed.stepped hs
    refine hnone t ?_ ⟨hagreed, hcarried.accounted⟩
    by_cases hc : c = some .step
    · exact takenId_of_ingress ((hingress hc).trans hin0.symm)
    · exact takenId_of_command (h0 ▸ hc)
  | @answered o rest u v b hin _ hdeed hbeacon hrefused =>
    have hstep : Stepped s (v.finishOrder o b) :=
      (taken_sameSteps s o rest).stepped.trans (hdeed.stepped.trans (answered_sameSteps hbeacon o b).stepped)
    obtain ⟨hagreed, hcarried⟩ := hstep hs
    refine hnone _ ?_ ⟨hagreed, hcarried.accounted⟩
    by_cases hc : c = some .step
    · obtain ⟨code, rfl⟩ := hrefused hc
      exact takenId_of_refused
    · exact takenId_of_command (h0 ▸ hc)
  | @stepTaken o rest a r free v deadline members pending skipped overrun hc hin _ _ hid hne hnew hfree hbeacon =>
    obtain ⟨htable, howing⟩ := ((taken_sameSteps s o rest).stepped hs).1
    have hrfree : ((s.taken o rest).record r).state = .free :=
      (hs.1.free.2 r).1 (by rw [hfree]; exact List.mem_cons_self)
    have hagreed : Agreed ((s.taken o rest).takeStepInto r a) :=
      ⟨takeStepInto_tableLaw htable hfree hne hnew, takeStepInto_owingLaw howing hrfree⟩
    obtain ⟨hagreed', entered, hsum, hperm⟩ := ((closingCheck_stepped _ r).trans
      (answered_sameSteps hbeacon o (.okStep deadline members pending skipped overrun)).stepped) hagreed
    refine ⟨hagreed', .inr (.inr ⟨entered, .inl ?_, ?_⟩)⟩
    · rw [hsum, (takeStepInto_freeOrder _ r a).2.2]; rfl
    · have hv : v.ingress = rest := by
        rw [hbeacon.ingress_eq, closingCheck_frame]
        show ((s.taken o rest).takeStepInto r a).ingress = rest
        rw [takeStepInto_stepFrame]
        rfl
      obtain ⟨more, hp⟩ : ∃ more, s0.pending = .step :: more :=
        ⟨s0.pending.tail, List.eq_cons_of_mem_head? (h0.trans hc)⟩
      rw [takenId_of_taken hp (hin0.trans hin) hv, ← hid]
      exact hperm.trans (takeStepInto_carriedIds hrfree)
  | beacon =>
    obtain ⟨hagreed, hcarried⟩ := (enterBeacon_sameSteps s).stepped hs
    refine hnone _ (takenId_of_ingress ?_) ⟨hagreed, hcarried.accounted⟩
    rcases enterBeacon_cases s with ⟨-, -, h⟩ | ⟨-, h⟩ <;> simp only [h, hin0]
  | report =>
    refine hnone _ (takenId_of_ingress ?_) (startReport_agreed hs)
    rcases startReport_cases s with h | ⟨q, rest, line, -, h⟩ | ⟨q, rest, line, -, h⟩ <;> simp only [h, hin0]
  | poweredOn hc => exact ⟨(poweredOn_cleared s _ _).agreed, .inl ⟨_, _, hc⟩⟩
  | reset hc => exact ⟨(resetByOrder_cleared _ _).agreed, .inr (.inl ⟨_, hc⟩)⟩

/-- Settles O60: by the acts of the step's course. Every act that ends a member's debt takes its entry with it, a record
leaves the table only with its SUMMARY, and only a STEP order taken puts an ID there. -/
theorem everyStepKeepsOwingAndTableInAgreement : Obligations.EveryStepKeepsOwingAndTableInAgreement := by
  unfold Obligations.EveryStepKeepsOwingAndTableInAgreement
  intro s t htable howing h
  have hs : Agreed { s with pending := s.pending.tail } :=
    ⟨⟨htable.free, htable.closing, htable.ids, htable.distinct⟩, howing⟩
  obtain ⟨⟨htable', howing'⟩, hcases⟩ := (step_course h).agreed (s0 := s) hs rfl rfl
  refine ⟨htable', howing', fun hne => ?_⟩
  rcases hcases with ⟨straps, seats, hc⟩ | ⟨straps, hc⟩ | haccounted
  · exact absurd rfl ((hne _ s.pending.tail (List.eq_cons_of_mem_head? hc)).1 straps seats)
  · exact absurd rfl ((hne _ s.pending.tail (List.eq_cons_of_mem_head? hc)).2 straps)
  · exact haccounted

end Sys2Proof
end

section
/-! PROOFS of the statements about time, the beacon's timers, the uplink port and the summaries. -/

namespace Sys2Proof

open Sys2Proof.Machine

/-! ### The queue of commands and the passing of time -/

/-- Settles O1. -/
theorem stepRunsFrontCommand : Obligations.StepRunsFrontCommand := fun _ _ => rfl

theorem Machine.Lane.passMs_eq (l : Lane) : l.passMs =
    { l with
      inFlight := l.inFlight.map fun f =>
        { f with
          phase :=
            match f.phase with
            | .awaiting n => .awaiting (n - 1)
            | .paused n => .paused (n - 1)
            | .sending => .sending
            | .due => .due }
      gapTimer := l.gapTimer.map (· - 1)
      debounce := l.debounce.map (· - 1)
      announce :=
        match l.announce with
        | .running n => .running (n - 1)
        | .stopped => .stopped
        | .expired => .expired
      keyPulse := l.keyPulse.map (· - 1) } := by
  have hphase : ∀ f : InFlight, f.phase.passMs =
      match f.phase with
      | .awaiting n => .awaiting (n - 1)
      | .paused n => .paused (n - 1)
      | .sending => .sending
      | .due => .due := fun f => by cases f.phase <;> rfl
  have hannounce : l.announce.passMs =
      match l.announce with
      | .running n => .running (n - 1)
      | .stopped => .stopped
      | .expired => .expired := by cases l.announce <;> rfl
  simp only [Lane.passMs, countDown, hphase, hannounce]

/-- Settles O2: on an empty queue the step is `passMs`, which the lemmas of the passing millisecond give part by
part. -/
theorem idleStepPassesOneMillisecond : Obligations.IdleStepPassesOneMillisecond := by
  intro s hidle
  have hstep : step s = .next s.passMs := by simp only [step, hidle]
  refine ⟨s.passMs, hstep, ?_, fun i => ?_, passMs_record s, passMs_instrument s⟩
  · exact passMs_frame s
  · exact (passMs_lane s i).trans (Lane.passMs_eq _)

/-! ### The beacon's timers -/

theorem exec_intervalExpiry_eq : ∀ s : State, exec .intervalExpiry s = execIntervalExpiry s := by intros; rfl

theorem exec_spacingExpiry_eq : ∀ s : State, exec .spacingExpiry s = execSpacingExpiry s := by intros; rfl

/-- Settles O53, by the two conditions of each expiry. -/
theorem beaconTimersMakeBeaconsDue : Obligations.BeaconTimersMakeBeaconsDue := by
  intro s
  simp only [exec_intervalExpiry_eq, exec_spacingExpiry_eq, execIntervalExpiry, execSpacingExpiry]
  refine ⟨fun h => ?_, fun h he => ?_, fun h he => ?_, fun h => ?_, fun h => ?_⟩
  · rw [if_pos h]; rfl
  · simp only [State.spacingOut, h, he, if_true, State.beaconFallsDue]
  · simp only [State.spacingOut, h, he, if_true, Bool.false_eq_true, if_false]
  · rw [if_neg h]
  · rw [State.spacingOut, if_neg h]

theorem exec_beaconEntry_eq : ∀ s : State, exec .beaconEntry s = execBeaconEntry s := by intros; rfl

theorem countP_map_recordList (s : State) : (s.recordList.countP fun r => r.state = .opened) =
    ((List.finRange 32).filter fun r => (s.record r).state = .opened).length := by
  rw [State.recordList, List.countP_map, List.countP_eq_length_filter]
  rfl

theorem countOutcome_eq_length (n : StepRecord) (o : MemberOutcome) : n.countOutcome o =
    ((List.finRange 16).filter fun i => n.members[i].any fun m => m.outcome == o).length :=
  List.countP_eq_length_filter

theorem selectedTable_eq (s : State) : s.selectedTable =
    match s.selection with
    | .verdicts => .verdicts ((List.finRange 16).map fun i =>
        ((s.lane i).board.verdict, (s.lane i).board.latch, (s.lane i).board.firstFailure.isSome))
    | .flags => .flags ((List.finRange 16).map fun i => ((s.lane i).flags, (s.lane i).dupCount))
    | .instruments => .instruments ((List.finRange 4).map fun k =>
        ((s.instrument k).enabled, (s.instrument k).holder, (s.instrument k).holdTimer.getD 0,
          (s.instrument k).waiting))
    | .steps => .steps (((List.finRange 32).filter fun r => (s.record r).state ≠ .free).map fun r =>
        ((s.record r).stepId.getD 0#16, (s.record r).state,
          if (s.record r).state = .opened then (s.record r).deadline.getD 0 else 0,
          ((List.finRange 16).filter fun i =>
            (s.record r).members[i].any fun m => m.outcome == .pending).length,
          ((List.finRange 16).filter fun i =>
            (s.record r).members[i].any fun m => m.outcome == .partialAnswer).length)) := by
  unfold State.selectedTable
  cases s.selection with
  | verdicts => simp only [State.laneList, laneIds, List.map_map]; rfl
  | flags => simp only [State.laneList, laneIds, List.map_map]; rfl
  | instruments => rfl
  | steps =>
    simp only [State.recordList, List.filter_map, List.map_map, ← countOutcome_eq_length]
    rfl

/-- Settles O54, by the cases of a beacon's entry; the beacon is built before the holding set is emptied. -/
theorem dueBeaconEntersAndEmptiesTheHoldingSet : Obligations.DueBeaconEntersAndEmptiesTheHoldingSet := by
  intro s
  rw [exec_beaconEntry_eq, execBeaconEntry]
  refine ⟨fun hstays => ?_, fun hdue hroom => ?_⟩
  · rcases enterBeacon_cases s with ⟨hdue, hroom, -⟩ | ⟨-, h⟩
    · rcases hstays with h | h
      · rw [h] at hdue; cases hdue
      · omega
    · rw [h]
  · rcases enterBeacon_cases s with ⟨-, -, h⟩ | ⟨h, -⟩
    · refine ⟨_, { s with heartbeat := !s.heartbeat }.buildBeacon, rfl, ?_, fun i => ?_, rfl, rfl, rfl, ?_, rfl, rfl,
        rfl, rfl, rfl, ?_, rfl, ?_⟩
      · rw [h]; rfl
      · rw [h]
        exact Vector.getElem_replicate _
      · simp only [State.buildBeacon, State.laneList, laneIds, List.map_map]
        rfl
      · exact countP_map_recordList _
      · exact selectedTable_eq _
    · rcases h with h | h
      · rw [h] at hdue; cases hdue
      · omega

/-! ### The uplink port -/

theorem satIncr_counterMax (n : Nat) : satIncr Config.counterMax n = if n < 65535 then n + 1 else n := rfl

theorem frameDamaged_eq_true_iff {bytes : List Byte} {rxError : Bool} : frameDamaged bytes rxError = true ↔
    rxError = true ∨ bytes.length < 64 ∨ 1518 < bytes.length
      ∨ bytes.drop (bytes.length - 4) ≠ le32 (fcs (bytes.take (bytes.length - 4))) := by
  simp only [frameDamaged, Bool.or_eq_true, decide_eq_true_eq, bne_iff_ne, or_assoc]
  rfl

theorem exec_uplinkFrame_eq : ∀ (bytes : List Byte) (rxError : Bool) (s : State),
    exec (.uplinkFrame bytes rxError) s = execUplinkFrame bytes rxError s := by intros; rfl

theorem exec_pause_eq : ∀ (bytes : List Byte) (rxError : Bool) (s : State),
    exec (.pause bytes rxError) s = execPause bytes rxError s := by intros; rfl

/-- Settles O32. -/
theorem damagedFramesAreCounted : Obligations.DamagedFramesAreCounted := by
  intro s bytes rxError
  simp only [exec_uplinkFrame_eq, exec_pause_eq, execUplinkFrame, execPause]
  refine ⟨fun hdown => ?_, fun hup hdamaged => ?_⟩
  · simp only [hdown, Bool.false_eq_true, if_false, and_self]
  · simp only [hup, frameDamaged_eq_true_iff.2 hdamaged, if_true, State.countDamaged, satIncr_counterMax, and_self]

theorem exec_reportFrameStart_eq : ∀ s : State, exec .reportFrameStart s = execReportFrameStart s := by intros; rfl

/-- Settles O33, along the branches of the free transmitter's choice. -/
theorem reportFrameStartServesUrgentFirst : Obligations.ReportFrameStartServesUrgentFirst := by
  intro s
  rw [exec_reportFrameStart_eq, execReportFrameStart]
  refine ⟨fun r rest hurgent hup => ?_, fun r rest hbulk hup hurgent hhold => ?_, fun h => ?_⟩
  · simp only [State.startReport, hup, hurgent, if_true]
    rfl
  · simp only [State.startReport, hup, hurgent, hbulk, hhold, if_true, Option.isNone_none]
    rfl
  · rcases h with hdown | ⟨hurgent, hrest⟩
    · simp only [State.startReport, hdown, Bool.false_eq_true, if_false]
    · rcases hrest with hbulk | hheld
      · simp only [State.startReport, hurgent, hbulk, ite_self]
      · have hnot : s.bulkHold.isNone = false := by simpa using Option.ne_none_iff_isSome.1 hheld
        cases hbulk : s.bulk with
        | nil => simp only [State.startReport, hurgent, hbulk, ite_self]
        | cons r rest => simp only [State.startReport, hurgent, hbulk, hnot, Bool.false_eq_true, if_false, ite_self]

/-! ### Summaries -/

theorem le32_eq_append (w : Quad) : le32 w = le16 (w.setWidth 16) ++ le16 ((w >>> 16).setWidth 16) := by
  have hsetWidth : ∀ v : Quad, (v.setWidth 16).setWidth 8 = v.setWidth 8 := fun v =>
    BitVec.setWidth_setWidth_of_le v (by decide)
  have hshift : ∀ v : Quad, ((v.setWidth 16) >>> 8).setWidth 8 = (v >>> 8).setWidth 8 := fun v => by
    ext k hk
    have : 8 + k < 16 := by omega
    simp [BitVec.getElem_setWidth, this]
  simp only [le32, le16, hsetWidth, hshift, List.cons_append, List.nil_append, ← BitVec.shiftRight_add]

theorem append_halves (w : Quad) : (w >>> 16).setWidth 16 ++ w.setWidth 16 = w := by
  ext k hk
  simp only [BitVec.getElem_append, BitVec.getElem_setWidth, BitVec.getLsbD_ushiftRight]
  by_cases h : k < 16
  · simp [h, BitVec.getLsbD_eq_getElem hk]
  · have hback : 16 + (k - 16) = k := by omega
    simp [h, hback, BitVec.getLsbD_eq_getElem hk]

/-- A four-byte field reads back. -/
theorem quadAt_le32 (w : Quad) (after : List Byte) : quadAt (le32 w ++ after) 0 = w := by
  rw [le32_eq_append]
  refine Eq.trans ?_ (append_halves w)
  exact congrArg₂ (· ++ ·) (half_le16 _) (half_le16 _)

/-- Three four-byte fields behind one byte read back. -/
theorem quadAt_three (x : Byte) (a b c : Quad) (after : List Byte) :
    quadAt (x :: (le32 a ++ (le32 b ++ (le32 c ++ after)))) 1 = a
      ∧ quadAt (x :: (le32 a ++ (le32 b ++ (le32 c ++ after)))) 5 = b
      ∧ quadAt (x :: (le32 a ++ (le32 b ++ (le32 c ++ after)))) 9 = c :=
  ⟨quadAt_le32 a (le32 b ++ (le32 c ++ after)), quadAt_le32 b (le32 c ++ after), quadAt_le32 c after⟩

theorem statisticsBytes_some (v : Statistics) (after : List Byte) : statisticsBytes (some v) ++ after =
    byteOf v.count :: (le32 (.ofInt 32 v.minimum) ++ (le32 (.ofInt 32 v.maximum) ++ (le32 (.ofInt 32 v.mean) ++ after)))
    := by
  simp only [statisticsBytes, signedBytes, List.append_assoc, List.cons_append]

theorem byteAt_append_right (a b : List Byte) {n : Nat} (h : a.length = n) (k : Nat) :
    byteAt (a ++ b) (n + k) = byteAt b k := by
  rw [byteAt, byteAt, List.getD_append_right _ _ _ _ (by omega), h, Nat.add_sub_cancel_left]

theorem byteAt_imageAt {size k j : Nat} (images : List Byte) (h : j < size) :
    byteAt (imageAt size k images) j = byteAt images (size * k + j) := by
  simp [byteAt, imageAt, List.getElem?_take_of_lt h]

/-- A member's four bytes in a SUMMARY (R203). -/
def summaryRow (m : LaneId × Member) : List Byte :=
  [laneByte m.1, m.2.outcome.code, m.2.verdict.code, byteOf m.2.count]

theorem byteAt_summaryRows {members : List (LaneId × Member)} {k : Nat} {m : LaneId × Member}
    (h : members[k]? = some m) {j : Nat} (hj : j < 4) :
    byteAt (members.map summaryRow).flatten (4 * k + j) = byteAt (summaryRow m) j := by
  have hsize : ∀ b ∈ members.map summaryRow, b.length = 4 := fun b hb => by
    obtain ⟨n, -, rfl⟩ := List.mem_map.1 hb
    rfl
  obtain ⟨hk, hm⟩ := List.getElem?_eq_some_iff.1 h
  rw [← byteAt_imageAt _ hj, imageAt_flatten hsize (k := k) (by simpa using hk)]
  simp [hm]

theorem statisticsBytes_length (st : Option Statistics) : (statisticsBytes st).length = 13 := by
  cases st <;> rfl

theorem outcomeCode_eq_outcomeByte (o : MemberOutcome) : o.code = outcomeByte o := by cases o <;> rfl

/-- A SUMMARY's bytes in three parts: the fields before the statistics, the statistics and the member rows. -/
theorem summaryBytes_eq (b : SummaryBody) : b.bytes =
    (le16 b.stepId ++ [b.cause.code, b.tag, byteOf b.members.length])
      ++ (statisticsBytes b.stats ++ (b.members.map summaryRow).flatten) := by
  simp only [SummaryBody.bytes, List.append_assoc]
  rfl

theorem byteAt_summary_row {b : SummaryBody} {k : Nat} {m : LaneId × Member} (h : b.members[k]? = some m) {j : Nat}
    (hj : j < 4) : byteAt b.bytes (18 + j + 4 * k) = byteAt (summaryRow m) j := by
  have hplace : 18 + j + 4 * k = 5 + (13 + (4 * k + j)) := by omega
  rw [summaryBytes_eq, hplace, byteAt_append_right (n := 5) _ _ rfl, byteAt_append_right _ _ (statisticsBytes_length _),
    byteAt_summaryRows h hj]

/-- The statistics fields of a SUMMARY, 00h throughout where there are none (R89). -/
theorem summaryBytes_stats (b : SummaryBody) :
    match b.stats with
    | none => byteAt b.bytes 5 = 0x00#8 ∧ quadAt b.bytes 6 = 0#32 ∧ quadAt b.bytes 10 = 0#32
      ∧ quadAt b.bytes 14 = 0#32
    | some v => byteAt b.bytes 5 = BitVec.ofNat 8 v.count ∧ quadAt b.bytes 6 = BitVec.ofInt 32 v.minimum
      ∧ quadAt b.bytes 10 = BitVec.ofInt 32 v.maximum ∧ quadAt b.bytes 14 = BitVec.ofInt 32 v.mean := by
  have hbyte : ∀ k, byteAt b.bytes (5 + k)
      = byteAt (statisticsBytes b.stats ++ (b.members.map summaryRow).flatten) k := fun k => by
    rw [summaryBytes_eq, byteAt_append_right (n := 5) _ _ rfl]
  have hquad : ∀ k, quadAt b.bytes (5 + k)
      = quadAt (statisticsBytes b.stats ++ (b.members.map summaryRow).flatten) k := fun k => by
    simp only [quadAt, halfAt, Nat.add_assoc, hbyte]
  cases hst : b.stats with
  | none =>
    rw [hst] at hbyte hquad
    obtain ⟨hmin, hmax, hmean⟩ := quadAt_three 0x00#8 0#32 0#32 0#32 (b.members.map summaryRow).flatten
    exact ⟨hbyte 0, (hquad 1).trans hmin, (hquad 5).trans hmax, (hquad 9).trans hmean⟩
  | some v =>
    rw [hst] at hbyte hquad
    have hlayout := statisticsBytes_some v (b.members.map summaryRow).flatten
    rw [hlayout] at hbyte hquad
    obtain ⟨hmin, hmax, hmean⟩ := quadAt_three (byteOf v.count) (.ofInt 32 v.minimum) (.ofInt 32 v.maximum)
      (.ofInt 32 v.mean) (b.members.map summaryRow).flatten
    exact ⟨hbyte 0, (hquad 1).trans hmin, (hquad 5).trans hmax, (hquad 9).trans hmean⟩

theorem summaryImage_bytes (b : SummaryBody) : SummaryImage b b.bytes := by
  refine ⟨?_, half_le16 _, ?_, rfl, rfl, ?_, fun k i m h => ⟨?_, ?_, ?_, ?_⟩⟩
  · have hrows : (b.members.map summaryRow).flatten.length = 4 * b.members.length := by
      rw [length_flatten_of_length_eq (size := 4) fun r hr => by obtain ⟨n, -, rfl⟩ := List.mem_map.1 hr; rfl,
        List.length_map]
    rw [summaryBytes_eq, List.length_append, List.length_append (as := statisticsBytes _), statisticsBytes_length,
      hrows]
    show 5 + (13 + 4 * b.members.length) = _
    omega
  · show b.cause.code = _
    cases b.cause <;> rfl
  · exact summaryBytes_stats b
  · exact byteAt_summary_row h (j := 0) (by decide)
  · exact (byteAt_summary_row h (j := 1) (by decide)).trans (outcomeCode_eq_outcomeByte _)
  · exact (byteAt_summary_row h (j := 2) (by decide)).trans (verdictCode_eq_verdictByte _)
  · exact byteAt_summary_row h (j := 3) (by decide)

theorem exec_summaryEnqueue_eq : ∀ s : State, exec .summaryEnqueue s = execSummaryEnqueue s := by intros; rfl

/-- Settles O34, by the cases of a summary's entry. -/
theorem summaryEntersAndFreesItsRecord : Obligations.SummaryEntersAndFreesItsRecord := by
  intro s
  rw [exec_summaryEnqueue_eq, execSummaryEnqueue]
  refine ⟨fun r rest hclosing hroom => ?_, fun hstays => ?_, summaryImage_bytes⟩
  · rcases enterSummary_cases s with ⟨r', rest', hclosing', -, h⟩ | ⟨hno, -⟩
    · obtain ⟨rfl, rfl⟩ := List.cons.inj (hclosing'.symm.trans hclosing)
      rw [h, summary_eq_summaryOf]
      rfl
    · rcases hno with hno | hno
      · rw [hno] at hclosing; cases hclosing
      · omega
  · rcases enterSummary_cases s with ⟨r, rest, hclosing, hroom, -⟩ | ⟨-, h⟩
    · rcases hstays with hno | hno
      · rw [hno] at hclosing; cases hclosing
      · omega
    · rw [h]

end Sys2Proof
end

section
/-! PROOFS of the statements about frames of the uplink. -/

namespace Sys2Proof

open Sys2Proof.Machine

/-! ### Reading an Ethernet frame (R158 to R160) -/

section

variable {destination source : List Byte} {type : Half} {data : List Byte}

/-- The bytes of a frame before its FCS. -/
def coveredBytes (destination source : List Byte) (type : Half) (data : List Byte) : List Byte :=
  destination ++ (source ++ (be16 type ++ data))

theorem ethernetFrame_eq (destination source : List Byte) (type : Half) (data : List Byte) :
    ethernetFrame destination source type data = coveredBytes destination source type data
      ++ le32 (fcs (coveredBytes destination source type data)) := by
  simp only [ethernetFrame, coveredBytes, List.append_assoc]

theorem coveredBytes_length (hd : destination.length = 6) (hs : source.length = 6) :
    (coveredBytes destination source type data).length = 14 + data.length := by
  simp only [coveredBytes, List.length_append, hd, hs, be16, List.length_cons, List.length_nil]
  omega

theorem ethernetFrame_length (hd : destination.length = 6) (hs : source.length = 6) :
    (ethernetFrame destination source type data).length = 14 + data.length + 4 := by
  rw [ethernetFrame_eq, List.length_append, coveredBytes_length hd hs]
  rfl

theorem ethernetFrame_take (hd : destination.length = 6) (hs : source.length = 6) :
    (ethernetFrame destination source type data).take ((ethernetFrame destination source type data).length - 4)
      = coveredBytes destination source type data := by
  rw [ethernetFrame_length hd hs, ethernetFrame_eq, ← coveredBytes_length (type := type) (data := data) hd hs]
  exact List.take_left

theorem ethernetFrame_drop (hd : destination.length = 6) (hs : source.length = 6) :
    (ethernetFrame destination source type data).drop ((ethernetFrame destination source type data).length - 4)
      = le32 (fcs (coveredBytes destination source type data)) := by
  rw [ethernetFrame_length hd hs, ethernetFrame_eq, ← coveredBytes_length (type := type) (data := data) hd hs]
  exact List.drop_left

/-- A whole frame of a lawful length received without error is not damaged. -/
theorem frameDamaged_ethernetFrame (hd : destination.length = 6) (hs : source.length = 6) (hlow : 46 ≤ data.length)
    (hhigh : data.length ≤ 1500) : frameDamaged (ethernetFrame destination source type data) false = false := by
  rw [Bool.eq_false_iff, ne_eq, frameDamaged_eq_true_iff, ethernetFrame_take hd hs, ethernetFrame_drop hd hs,
    ethernetFrame_length hd hs]
  rintro (h | h | h | h)
  · cases h
  · omega
  · omega
  · exact h rfl

theorem byteAt_append_left {a b : List Byte} {k : Nat} (h : k < a.length) : byteAt (a ++ b) k = byteAt a k := by
  rw [byteAt, byteAt, List.getD_append _ _ _ _ h]

theorem frameDestination_ethernetFrame (hd : destination.length = 6) :
    frameDestination (ethernetFrame destination source type data) = destination := by
  rw [frameDestination, ethernetFrame_eq, coveredBytes, List.append_assoc, ← hd]
  exact List.take_left

theorem frameSource_ethernetFrame (hd : destination.length = 6) (hs : source.length = 6) :
    frameSource (ethernetFrame destination source type data) = source := by
  have hdrop : (ethernetFrame destination source type data).drop 6 = source ++ (be16 type ++ data
      ++ le32 (fcs (coveredBytes destination source type data))) := by
    rw [ethernetFrame_eq, ← hd, coveredBytes, List.append_assoc, List.append_assoc]
    exact List.drop_left
  rw [frameSource, hdrop, ← hs]
  exact List.take_left

theorem byteAt_ethernetFrame (hd : destination.length = 6) (hs : source.length = 6) (k : Nat) :
    byteAt (ethernetFrame destination source type data) (12 + k)
      = byteAt (be16 type ++ (data ++ le32 (fcs (coveredBytes destination source type data)))) k := by
  have hplace : 12 + k = 6 + (6 + k) := by omega
  rw [ethernetFrame_eq, coveredBytes, List.append_assoc, List.append_assoc, List.append_assoc, hplace,
    byteAt_append_right _ _ hd, byteAt_append_right _ _ hs]

theorem frameType_ethernetFrame (hd : destination.length = 6) (hs : source.length = 6) :
    frameType (ethernetFrame destination source type data) = type :=
  (congrArg₂ half (byteAt_ethernetFrame hd hs 1) (byteAt_ethernetFrame hd hs 0)).trans (half_le16 type)

theorem bigHalfAt_ethernetFrame (hd : destination.length = 6) (hs : source.length = 6) {k : Nat}
    (hk : k + 1 < data.length) :
    bigHalfAt (ethernetFrame destination source type data) (14 + k) = bigHalfAt data k := by
  have hbyte : ∀ j, j < data.length →
      byteAt (ethernetFrame destination source type data) (14 + j) = byteAt data j := fun j hj => by
    have hplace : 14 + j = 12 + (2 + j) := by omega
    rw [hplace, byteAt_ethernetFrame hd hs, byteAt_append_right (n := 2) _ _ rfl, byteAt_append_left hj]
  exact congrArg₂ half (hbyte (k + 1) hk) (hbyte k (by omega))

theorem frameData_ethernetFrame (hd : destination.length = 6) (hs : source.length = 6) :
    frameData (ethernetFrame destination source type data) = data := by
  have hhead : (destination ++ (source ++ be16 type)).length = 14 := by
    simp [hd, hs, be16]
  rw [frameData, ethernetFrame_take hd hs, coveredBytes, ← List.append_assoc source, ← List.append_assoc, ← hhead]
  exact List.drop_left

end

/-! ### Flow control (R160) -/

theorem isPauseFrame_eq_true_iff {station : BitVec 4} {f : List Byte} : isPauseFrame station f = true ↔
    (frameDestination f = flowControlAddress ∨ frameDestination f = stationAddress station)
      ∧ frameType f = 0x8808#16 ∧ bigHalfAt f 14 = 0x0001#16 := by
  simp only [isPauseFrame, Bool.and_eq_true, Bool.or_eq_true, beq_iff_eq, and_assoc]

theorem exec_pause_of_sound {s : State} {f : List Byte} (hup : s.linkUp = true)
    (hsound : frameDamaged f false = false) : exec (.pause f false) s =
      .next (if isPauseFrame s.station f then s.holdBulk (pauseQuanta f) else s) := by
  rw [exec_pause_eq, execPause, hup, hsound]
  rfl

theorem exec_linkUp_eq : ∀ s : State, exec .linkUp s = .next { s with linkUp := true } := by intros; rfl

theorem exec_linkDown_eq : ∀ s : State, exec .linkDown s = .next { s with linkUp := false } := by intros; rfl

theorem exec_bulkHoldExpiry_eq : ∀ s : State, exec .bulkHoldExpiry s = .next s.bulkHoldOut := by intros; rfl

theorem bulkHoldOut_of_some {s : State} {left : Nat} (h : s.bulkHold = some left) :
    s.bulkHoldOut = if left < 100000 then { s with bulkHold := none } else s := by
  rw [State.bulkHoldOut, h]
  by_cases hleft : left < 100000
  · rw [if_pos hleft]
    exact if_pos (decide_eq_true hleft)
  · rw [if_neg hleft]
    exact if_neg fun hc => hleft (of_decide_eq_true hc)

/-- A PAUSE frame's opcode and pause time. -/
theorem pause_fields {destination source more : List Byte} {opcode quanta : Half} (hd : destination.length = 6)
    (hs : source.length = 6) :
    bigHalfAt (ethernetFrame destination source 0x8808#16 (be16 opcode ++ be16 quanta ++ more)) 14 = opcode
      ∧ pauseQuanta (ethernetFrame destination source 0x8808#16 (be16 opcode ++ be16 quanta ++ more))
        = quanta.toNat := by
  have hlen : (be16 opcode ++ be16 quanta ++ more).length = 4 + more.length := by
    simp only [List.length_append, be16, List.length_cons, List.length_nil]
  refine ⟨(bigHalfAt_ethernetFrame (k := 0) hd hs (by omega)).trans (half_le16 opcode), ?_⟩
  exact congrArg BitVec.toNat ((bigHalfAt_ethernetFrame (k := 2) hd hs (by omega)).trans (half_le16 quanta))

/-- Settles O30; the PAUSE frame's fields are read back from its bytes. -/
theorem linkStatusAndBulkHold : Obligations.LinkStatusAndBulkHold := by
  intro s
  refine ⟨exec_linkUp_eq s, exec_linkDown_eq s, fun left h hleft => ?_, fun left h hleft => ?_, fun h => ?_, ?_⟩
  · rw [exec_bulkHoldExpiry_eq, bulkHoldOut_of_some h, if_pos hleft]
  · rw [exec_bulkHoldExpiry_eq, bulkHoldOut_of_some h, if_neg (by omega)]
  · simp [exec_bulkHoldExpiry_eq, State.bulkHoldOut, h]
  · intro destination source more opcode quanta hd hs hlow hhigh hup
    have hlen : (be16 opcode ++ be16 quanta ++ more).length = 4 + more.length := by
      simp only [List.length_append, be16, List.length_cons, List.length_nil]
    have hsound := frameDamaged_ethernetFrame (type := 0x8808#16) (data := be16 opcode ++ be16 quanta ++ more) hd hs
      (by omega) (by omega)
    obtain ⟨hopcode, hquanta⟩ := pause_fields (more := more) (opcode := opcode) (quanta := quanta) hd hs
    rw [exec_pause_of_sound hup hsound]
    refine ⟨fun hop hdest => ?_, fun hno => ?_⟩
    · have hpause := isPauseFrame_eq_true_iff.2 ⟨by rwa [frameDestination_ethernetFrame hd],
        frameType_ethernetFrame (data := be16 opcode ++ be16 quanta ++ more) hd hs, hopcode.trans hop⟩
      have hzero : (quanta.toNat = 0) = (quanta = 0#16) := by
        rw [← BitVec.toNat_inj]; rfl
      rw [if_pos hpause, hquanta, State.holdBulk]
      simp only [hzero, Config.quantumBits]
    · refine congrArg _ (if_neg fun hpause => ?_)
      obtain ⟨hdest, -, hop⟩ := isPauseFrame_eq_true_iff.1 hpause
      rw [hopcode] at hop
      rw [frameDestination_ethernetFrame hd] at hdest
      rcases hno with h | h
      · exact h hop
      · exact hdest.elim h.1 h.2

/-! ### The filter and the envelope (R159 to R164) -/

theorem passesFilter_eq_true_iff {station : BitVec 4} {f : List Byte} : passesFilter station f = true ↔
    (frameDestination f = broadcastAddress ∨ frameDestination f = stationAddress station)
      ∧ (byteAt (frameSource f) 0).getLsbD 0 = false ∧ frameSource f ≠ stationAddress station
      ∧ frameType f = 0x88B5#16 := by
  simp only [passesFilter, Bool.and_eq_true, Bool.or_eq_true, beq_iff_eq, bne_iff_ne, Bool.not_eq_true', and_assoc]

theorem exec_uplinkFrame_of_sound {s : State} {f : List Byte} (hup : s.linkUp = true)
    (hsound : frameDamaged f false = false) : exec (.uplinkFrame f false) s = .next (s.takeUplinkFrame f) := by
  rw [exec_uplinkFrame_eq, execUplinkFrame, hup, hsound]
  rfl

theorem takeUplinkFrame_of_not_pause {s : State} {f : List Byte} (h : frameType f ≠ 0x8808#16) :
    s.takeUplinkFrame f =
      if passesFilter s.station f then
        match envelopeOrder s.station f with
        | some o => s.offerOrder (frameSource f) o
        | none => s
      else s := by
  refine if_neg fun hpause => h ?_
  exact (isPauseFrame_eq_true_iff.1 hpause).2.1

/-- A frame of the flow control type does nothing but what a PAUSE does. -/
theorem takeUplinkFrame_of_flowControl {s : State} {f : List Byte} (h : frameType f = 0x8808#16) :
    s.takeUplinkFrame f = if isPauseFrame s.station f then s.holdBulk (pauseQuanta f) else s := by
  unfold State.takeUplinkFrame
  split
  · rfl
  · refine if_neg fun hpass => ?_
    have hother := (passesFilter_eq_true_iff.1 hpass).2.2.2
    rw [h] at hother
    exact absurd hother (by decide)

theorem getLsbD_seven_iff (kind : Byte) : kind.getLsbD 7 = true ↔ 0x80 ≤ kind.toNat := by
  have hmsb : kind.msb = decide (0x80 ≤ kind.toNat) := BitVec.msb_eq_decide kind
  rw [← decide_eq_true_iff (p := 0x80 ≤ kind.toNat), ← hmsb, BitVec.msb_eq_getLsbD_last]

/-- The order of an envelope, or none for another station's or a report kind (R162, R198). -/
theorem envelopeOrder_ethernetFrame {own : BitVec 4} {destination source more : List Byte} {station kind : Byte}
    {number len : Half} (hd : destination.length = 6) (hs : source.length = 6) :
    envelopeOrder own (ethernetFrame destination source 0x88B5#16
        (station :: kind :: le16 number ++ le16 len ++ more)) =
      if station ≠ own.setWidth 8 ∨ 0x80 ≤ kind.toNat then none
      else some { kind := kind, number := number, declared := len.toNat, body := more.take len.toNat } := by
  have hlen : halfAt (station :: kind :: le16 number ++ le16 len ++ more) 4 = len := half_le16 len
  have hnumber : halfAt (station :: kind :: le16 number ++ le16 len ++ more) 2 = number := half_le16 number
  have hcond : (byteAt (station :: kind :: le16 number ++ le16 len ++ more) 0 != own.setWidth 8
      || (byteAt (station :: kind :: le16 number ++ le16 len ++ more) 1).getLsbD 7) = true
      ↔ station ≠ own.setWidth 8 ∨ 0x80 ≤ kind.toNat := by
    rw [Bool.or_eq_true, bne_iff_ne, ← getLsbD_seven_iff]
    rfl
  rw [envelopeOrder, frameData_ethernetFrame hd hs]
  rw [hlen, hnumber]
  by_cases h : station ≠ own.setWidth 8 ∨ 0x80 ≤ kind.toNat
  · rw [if_pos (hcond.2 h), if_pos h]
  · rw [if_neg (mt hcond.1 h), if_neg h]
    rfl

/-- Settles O31: a frame of type 8808h is flow control only, any other goes through the filter and its envelope. -/
theorem uplinkFrameOffersItsOrder : Obligations.UplinkFrameOffersItsOrder := by
  intro s destination source hup hd hs
  refine ⟨fun type data htype hlow hhigh hfails => ?_, fun data rxError => ?_, ?_⟩
  · have hsound := frameDamaged_ethernetFrame (type := type) hd hs hlow hhigh
    have hread := frameType_ethernetFrame (type := type) (data := data) hd hs
    rw [exec_uplinkFrame_of_sound hup hsound, takeUplinkFrame_of_not_pause (by rwa [hread]), if_neg]
    intro hpass
    obtain ⟨hdest, hgroup, hown, hkind⟩ := passesFilter_eq_true_iff.1 hpass
    rw [frameDestination_ethernetFrame hd] at hdest
    rw [frameSource_ethernetFrame hd hs] at hgroup hown
    rw [hread] at hkind
    rcases hfails with ⟨hbroadcast, hstation⟩ | h | h | h
    · exact hdest.elim hbroadcast hstation
    · rw [hgroup] at h; cases h
    · exact hown h
    · exact h hkind
  · rw [exec_uplinkFrame_eq, exec_pause_eq, execUplinkFrame, execPause,
      takeUplinkFrame_of_flowControl (frameType_ethernetFrame hd hs)]
  · intro more station kind number len hlow hhigh hdest hgroup hown
    have hlen : (station :: kind :: le16 number ++ le16 len ++ more).length = 6 + more.length := by
      simp only [List.length_append, List.length_cons, le16, List.length_nil]
    have hsound := frameDamaged_ethernetFrame (type := 0x88B5#16)
      (data := station :: kind :: le16 number ++ le16 len ++ more) hd hs (by omega) (by omega)
    have hread := frameType_ethernetFrame (type := 0x88B5#16)
      (data := station :: kind :: le16 number ++ le16 len ++ more) hd hs
    have hpass := passesFilter_eq_true_iff.2 ⟨(frameDestination_ethernetFrame hd).symm ▸ hdest,
      (frameSource_ethernetFrame hd hs).symm ▸ hgroup, (frameSource_ethernetFrame hd hs).symm ▸ hown, hread⟩
    rw [exec_uplinkFrame_of_sound hup hsound, takeUplinkFrame_of_not_pause (by rw [hread]; decide), if_pos hpass,
      envelopeOrder_ethernetFrame hd hs, frameSource_ethernetFrame hd hs]
    refine ⟨fun h => by rw [if_pos h], fun hstation hkind => ?_⟩
    rw [if_neg (by rintro (h | h); exacts [h hstation, by omega])]
    exact congrArg Host.Outcome.next (by rfl)

end Sys2Proof
end

section
/-! PROOFS of the statements about one lane's transmitter, receiver, pocket inputs and timers. -/

namespace Sys2Proof

open Sys2Proof.Machine

/-! ### One lane replaced -/

theorem updLane_eq_withLane (s : State) (i : LaneId) (f : Lane → Lane) :
    s.updLane i f = s.withLane i (f (s.lane i)) := rfl

theorem setFlag_eq_withLane (s : State) (i : LaneId) (f : LaneFlag) :
    s.setFlag i f = s.withLane i (flagged (s.lane i) f) := rfl

theorem withLane_eq_of_lane_eq {s : State} {i : LaneId} {l : Lane} (h : l = s.lane i) : s.withLane i l = s := by
  subst h
  exact updLane_self s i

@[simp] theorem withLane_lane_self (s : State) (i : LaneId) (l : Lane) : (s.withLane i l).lane i = l := by
  simp [State.withLane, State.lane]

@[simp] theorem withLane_withLane (s : State) (i : LaneId) (l l' : Lane) :
    (s.withLane i l).withLane i l' = s.withLane i l' := by
  simp [State.withLane]

@[simp] theorem withLane_updLane (s : State) (i : LaneId) (l : Lane) (f : Lane → Lane) :
    (s.withLane i l).updLane i f = s.withLane i (f l) := by
  rw [updLane_eq_withLane, withLane_lane_self, withLane_withLane]

@[simp] theorem withLane_setFlag (s : State) (i : LaneId) (l : Lane) (f : LaneFlag) :
    (s.withLane i l).setFlag i f = s.withLane i (flagged l f) := by
  rw [setFlag_eq_withLane, withLane_lane_self, withLane_withLane]

/-! ### The send side (R18, R19, R21) -/

theorem exec_sendMark_eq : ∀ (i : LaneId) (s : State),
    exec (.sendMark i) s = .next (s.withLane i (s.lane i).sendMark) := by intros; rfl

theorem exec_sendNewFrame_eq : ∀ (i : LaneId) (s : State),
    exec (.sendNewFrame i) s = .next (s.withLane i (s.lane i).startNew) := by intros; rfl

theorem exec_sendResend_eq : ∀ (i : LaneId) (s : State),
    exec (.sendResend i) s = .next (s.withLane i (s.lane i).startResend) := by intros; rfl

theorem exec_lastByteOut_eq : ∀ (i : LaneId) (s : State),
    exec (.lastByteOut i) s = .next (s.withLane i (s.lane i).lastByteOut) := by intros; rfl

theorem exec_retryPauseExpiry_eq : ∀ (i : LaneId) (s : State),
    exec (.retryPauseExpiry i) s = .next (s.withLane i (s.lane i).retryPauseOut) := by intros; rfl

theorem exec_markWindowExpiry_eq : ∀ (i : LaneId) (s : State),
    exec (.markWindowExpiry i) s = .next (s.markWindowOut i) := by intros; rfl

theorem retryPauseOut_of_ne {l : Lane} (h : ∀ f, l.inFlight = some f → f.phase ≠ .paused 0) : l.retryPauseOut = l := by
  have hkept : l.retryPauseOut.inFlight = l.inFlight := by
    cases hf : l.inFlight with
    | none => simp only [Lane.retryPauseOut, hf, Option.map_none]
    | some f =>
      simp only [Lane.retryPauseOut, hf, Option.map_some]
      split
      · exact absurd ‹_› (h f hf)
      all_goals rfl
  calc l.retryPauseOut = { l with inFlight := l.retryPauseOut.inFlight } := rfl
    _ = l := by rw [hkept]

theorem markWindowOut_of_ne {s : State} {i : LaneId} {f : InFlight} (hf : (s.lane i).inFlight = some f)
    (h : f.phase ≠ .awaiting 0) : s.markWindowOut i = s := by
  unfold State.markWindowOut
  rw [hf]
  dsimp only
  split
  · exact absurd ‹_› h
  all_goals rfl

theorem markWindowOut_of_awaiting {s : State} {i : LaneId} {f : InFlight} (hf : (s.lane i).inFlight = some f)
    (h : f.phase = .awaiting 0) : s.markWindowOut i = s.countResend i f .due := by
  unfold State.markWindowOut
  rw [hf]
  dsimp only
  rw [h]

/-- A resend within the retry limit takes the frame to its next phase (R21). -/
theorem countResend_of_lt {s : State} {i : LaneId} {f : InFlight} (next : SendPhase)
    (h : f.resends < (s.lane i).settings.retryLimit) : s.countResend i f next =
      s.withLane i { s.lane i with inFlight := some { f with resends := f.resends + 1, phase := next } } :=
  if_neg (by omega)

/-- Settles O42, phase by phase. -/
theorem sendPhasesFollowTheirTimers : Obligations.SendPhasesFollowTheirTimers := by
  intro s i f hf
  rw [exec_lastByteOut_eq, exec_retryPauseExpiry_eq, exec_markWindowExpiry_eq]
  refine ⟨fun h => ?_, fun h => ?_, fun h hlimit => ?_, fun h => ?_, fun h => ?_⟩
  · simp only [Lane.lastByteOut, hf, Option.map_some, h, if_true]
  · simp only [Lane.retryPauseOut, hf, Option.map_some, h]
  · rw [markWindowOut_of_awaiting hf h, countResend_of_lt .due hlimit]
  · rw [retryPauseOut_of_ne fun g hg => by rw [hf] at hg; cases hg; exact h, withLane_eq_of_lane_eq rfl]
  · rw [markWindowOut_of_ne hf h]

theorem sendMark_of_idle {l : Lane} (h : l.state.occupied = false ∨ l.marks = []) : l.sendMark = l := by
  unfold Lane.sendMark
  split
  · rfl
  · rename_i m rest hm
    rcases h with h | h
    · simp [h]
    · rw [hm] at h; cases h

theorem startNew_of_not_free {l : Lane} (h : l.freeForOwn = false ∨ l.inFlight ≠ none) : l.startNew = l := by
  refine if_neg ?_
  rcases h with h | h
  · simp [h]
  · simp [h]

theorem startResend_of_not_free {l : Lane} (h : l.freeForOwn = false) : l.startResend = l := by
  unfold Lane.startResend
  split
  · simp [h]
  · rfl

theorem freeForOwn_eq_false {l : Lane} (h : l.state.servesOwn = false ∨ l.marks ≠ []) : l.freeForOwn = false := by
  rcases h with h | h <;> simp [Lane.freeForOwn, h]

theorem startNew_of_free {l : Lane} (hfree : l.freeForOwn = true) (hnone : l.inFlight = none) : l.startNew =
    match l.chooseNew with
    | none => l
    | some (f, l') =>
      { l' with
        inFlight := some { frame := f, seq := l.txSeq, resends := 0, phase := .sending }
        txSeq := l.txSeq + 1
        txBusy := true
        txLine := ownFrameBytes l.mode f l.txSeq } := if_pos (by simp [hfree, hnone])

/-- Settles O41, in the transmitter's order of choice. -/
theorem transmitterSendsMarkThenResendThenNew : Obligations.TransmitterSendsMarkThenResendThenNew := by
  rintro s i l rfl
  simp only [exec_sendMark_eq, exec_sendNewFrame_eq, exec_sendResend_eq]
  have hstays {l : Lane} (h : l = s.lane i) :
      (Host.Outcome.next (s.withLane i l) : Host.Outcome State Fault Refusal) = .next s :=
    congrArg _ (withLane_eq_of_lane_eq h)
  refine ⟨fun m rest hm hocc hidle => ?_, fun h => hstays (sendMark_of_idle h), fun h => ?_,
    fun hserves hidle hmarks => ?_⟩
  · simp only [Lane.sendMark, hm, hocc, hidle, Bool.not_false, Bool.and_self, if_true]
    rfl
  · have hbusy := freeForOwn_eq_false h
    exact ⟨hstays (startNew_of_not_free (.inl hbusy)), hstays (startResend_of_not_free hbusy)⟩
  · have hfree : (s.lane i).freeForOwn = true := by simp [Lane.freeForOwn, hserves, hidle, hmarks]
    refine ⟨fun f hf => ⟨hstays (startNew_of_not_free (.inr (by simp [hf]))), fun hdue => ?_, fun hnot => ?_⟩,
      fun hnone => ⟨hstays (by simp [Lane.startResend, hnone]), fun c hc => ?_, fun q rest hq hc => ?_,
        fun hc hq => hstays ?_⟩⟩
    · simp only [Lane.startResend, hf, hfree, hdue, beq_self_eq_true, Bool.and_self, if_true]
      rfl
    · exact hstays (by simp [Lane.startResend, hf, hnot])
    · rw [startNew_of_free hfree hnone]
      simp only [Lane.chooseNew, hc]
      rfl
    · rw [startNew_of_free hfree hnone]
      simp only [Lane.chooseNew, hc, hq]
      cases q <;> rfl
    · rw [startNew_of_free hfree hnone]
      simp only [Lane.chooseNew, hc, hq]

/-! ### The pocket's inputs and timers (R29, R31, R42, R134) -/

theorem exec_seatChange_eq : ∀ (i : LaneId) (level : Bool) (s : State),
    exec (.seatChange i level) s = .next (s.withLane i ((s.lane i).seatChange level)) := by intros; rfl

theorem exec_announceExpiry_eq : ∀ (i : LaneId) (s : State),
    exec (.announceExpiry i) s = .next (s.announceOut i) := by intros; rfl

theorem exec_keyPulseExpiry_eq : ∀ (i : LaneId) (s : State), exec (.keyPulseExpiry i) s =
    .next (s.withLane i (if (s.lane i).keyPulse = some 0 then { s.lane i with keyPulse := none } else s.lane i)) := by
  intros; rfl

theorem exec_debounceExpiry_eq : ∀ (i : LaneId) (s : State),
    exec (.debounceExpiry i) s = .next (s.debounceOut i) := by intros; rfl

theorem keyPulseExpiry_of_ne {s : State} {i : LaneId} (h : (s.lane i).keyPulse ≠ some 0) :
    exec (.keyPulseExpiry i) s = .next s := by
  rw [exec_keyPulseExpiry_eq, if_neg h, withLane_eq_of_lane_eq rfl]

/-- One lane replaced and one event recorded: the lane, the event and nothing else. -/
theorem withLane_recordEvent (s : State) (i j : LaneId) (l : Lane) (k : EventKind) :
    (s.withLane i l).recordEvent j k =
      { s.withLane i l with
        holding := ((s.withLane i l).recordEvent j k).holding
        beaconDue := ((s.withLane i l).recordEvent j k).beaconDue
        intervalTimer := ((s.withLane i l).recordEvent j k).intervalTimer
        earlyRequest := ((s.withLane i l).recordEvent j k).earlyRequest }
      ∧ EventsRecorded s ((s.withLane i l).recordEvent j k) [(j, k)] :=
  ⟨recordEvent_frame _ j k, recordEvent_recorded (s.withLane i l) j k⟩

theorem announceOut_of_ne {s : State} {i : LaneId} (h : (s.lane i).announce ≠ .running 0) : s.announceOut i = s := by
  unfold State.announceOut
  split
  · exact absurd ‹_› h
  all_goals rfl

/-- Settles O44. -/
theorem pocketInputsAndTimers : Obligations.PocketInputsAndTimers := by
  intro s i
  refine ⟨fun level => ?_, fun h => ⟨_, exec_announceExpiry_eq i s, ?_⟩, fun h => ?_, fun h => ?_,
    keyPulseExpiry_of_ne⟩
  · rw [exec_seatChange_eq, Lane.seatChange]
    cases hd : (s.lane i).debounce <;> simp
  · have hout : s.announceOut i
        = (s.withLane i { flagged (s.lane i) .mute with announce := .expired }).recordEvent i .mute := by
      simp only [State.announceOut, h, updLane_eq_withLane, withLane_setFlag]
      rfl
    rw [hout]
    exact withLane_recordEvent s i i _ .mute
  · rw [exec_announceExpiry_eq, announceOut_of_ne h]
  · rw [exec_keyPulseExpiry_eq, if_pos h]

theorem debounceOut_of_ne {s : State} {i : LaneId} (h : (s.lane i).debounce ≠ some 0) : s.debounceOut i = s := if_neg h

/-- A debounce timer that runs out under a changed level makes a rise or fall (R29). -/
theorem debounceOut_of_changed {s : State} {i : LaneId} (h : (s.lane i).debounce = some 0)
    (hlevel : (s.lane i).rawSeat ≠ (s.lane i).seat) : s.debounceOut i =
      (s.withLane i { s.lane i with debounce := none, seat := (s.lane i).rawSeat }).seatEdge i (s.lane i).rawSeat := by
  simp only [State.debounceOut, h, hlevel, if_true, if_false, updLane_eq_withLane]

/-- Settles O45, by the debounced edge and the lane state. -/
theorem debouncedRiseSeatsAnEmptyLane : Obligations.DebouncedRiseSeatsAnEmptyLane := by
  rintro s i l rfl
  refine ⟨fun h => ?_, fun h hlevel hoff => ?_, fun h hraw hseat hempty => ⟨_, exec_debounceExpiry_eq i s, ?_⟩⟩
  · rw [exec_debounceExpiry_eq, debounceOut_of_ne h]
  · rw [exec_debounceExpiry_eq, debounceOut_of_changed h hlevel]
    refine congrArg _ ?_
    cases hraw : (s.lane i).rawSeat <;> simp [State.seatEdge, hoff]
  · have hrise : s.debounceOut i = (s.withLane i
        (seatedLane { s.lane i with debounce := none, seat := (s.lane i).rawSeat })).recordEvent i .seated := by
      rw [debounceOut_of_changed h (by simp [hraw, hseat])]
      simp only [hraw, State.seatEdge, withLane_lane_self, hempty]
      rw [seatLane_eq, withLane_updLane]
    rw [hrise]
    exact withLane_recordEvent s i i _ .seated

end Sys2Proof
end

section
/-! PROOFS of the statements about what a lane receives: characters, complete frames and MARKs. -/

namespace Sys2Proof

open Sys2Proof.Machine

/-! ### The receiver (R10 to R13) -/

theorem exec_laneCharacter_eq : ∀ (i : LaneId) (c : Byte) (stopLow : Bool) (s : State),
    exec (.laneCharacter i c stopLow) s = .next (s.receiveCharacter i c stopLow) := by intros; rfl

theorem exec_gapTimeout_eq : ∀ (i : LaneId) (s : State), exec (.gapTimeout i) s =
    .next (if (s.lane i).gapTimer = some 0 then s.withLane i (flagged (huntingAfresh (s.lane i)) .truncated)
      else s) := by
  intro i s
  exact congrArg Host.Outcome.next (if_congr Iff.rfl (withLane_setFlag s i (huntingAfresh (s.lane i)) .truncated) rfl)

theorem exec_laneFrameReceived_eq : ∀ (i : LaneId) (f : RawFrame) (s : State),
    exec (.laneFrameReceived i f) s = .next (s.receiveFrame i f) := by intros; rfl

theorem exec_mark_eq : ∀ (i : LaneId) (framing : Framing) (seq : Byte) (payload : List Byte) (check : Half) (s : State),
    exec (.mark i framing seq payload check) s = .next (s.receiveFrame i
      { framing := framing, kind := 0x20#8, seq := seq, payload := payload, check := check }) := by intros; rfl

/-- Either command that brings a complete frame hands it to the receiver. -/
theorem exec_frameCommand_eq (i : LaneId) (f : RawFrame) (s : State) :
    exec (frameCommand i f) s = .next (s.receiveFrame i f) := by
  unfold frameCommand
  split
  · rename_i hkind
    rw [exec_mark_eq, ← hkind]
  · exact exec_laneFrameReceived_eq i f s

theorem receiveCharacter_of_stopLow {s : State} {i : LaneId} {c : Byte} (hocc : (s.lane i).state.occupied = true) :
    s.receiveCharacter i c true = s.withLane i (flagged (huntingAfresh (s.lane i)) .noise) :=
  (if_pos hocc).trans (withLane_setFlag s i (huntingAfresh (s.lane i)) .noise)

/-- A character that moves the hunt state on (R10). -/
theorem receiveCharacter_of_go {s : State} {i : LaneId} {c : Byte} {next : Hunt}
    (hocc : (s.lane i).state.occupied = true) (hstep : huntStep (s.lane i).hunt c = .go next false) :
    s.receiveCharacter i c false = s.withLane i ((s.lane i).enterHunt next) := by
  simp only [State.receiveCharacter, hocc, hstep, if_true, Bool.false_eq_true, if_false, updLane_eq_withLane]

/-- A character that belongs to no frame (R11). -/
theorem receiveCharacter_of_noise {s : State} {i : LaneId} {c : Byte} {next : Hunt}
    (hocc : (s.lane i).state.occupied = true) (hstep : huntStep (s.lane i).hunt c = .go next true) :
    s.receiveCharacter i c false = s.withLane i (flagged ((s.lane i).enterHunt next) .noise) := by
  simp only [State.receiveCharacter, hocc, hstep, if_true, Bool.false_eq_true, if_false, updLane_eq_withLane,
    withLane_setFlag]

theorem receiveCharacter_of_complete {s : State} {i : LaneId} {c : Byte} {f : RawFrame}
    (hocc : (s.lane i).state.occupied = true) (hstep : huntStep (s.lane i).hunt c = .complete f) :
    s.receiveCharacter i c false = s.receiveFrame i f := by
  simp only [State.receiveCharacter, hocc, hstep, if_true, Bool.false_eq_true, if_false]

theorem enterHunt_hunt (l : Lane) : l.enterHunt .hunt = huntingAfresh l := rfl

theorem enterHunt_of_ne {h : Hunt} (l : Lane) (hne : h ≠ .hunt) :
    l.enterHunt h = { l with hunt := h, gapTimer := some l.settings.gapLimit } := by
  rw [Lane.enterHunt, if_neg hne]

/-- A character that moves an occupied lane's hunt state on to a state other than HUNT, as the command gives it. -/
theorem exec_laneCharacter_of_go {s : State} {i : LaneId} {c : Byte} {next : Hunt}
    (hocc : (s.lane i).state.occupied = true) (hne : next ≠ .hunt)
    (hstep : huntStep (s.lane i).hunt c = .go next false) : exec (.laneCharacter i c false) s =
      .next (s.withLane i { s.lane i with hunt := next, gapTimer := some (s.lane i).settings.gapLimit }) := by
  rw [exec_laneCharacter_eq, receiveCharacter_of_go hocc hstep, enterHunt_of_ne _ hne]

/-- A character that belongs to no frame and leaves the receiver in HUNT. -/
theorem exec_laneCharacter_of_noise {s : State} {i : LaneId} {c : Byte}
    (hocc : (s.lane i).state.occupied = true) (hstep : huntStep (s.lane i).hunt c = .go .hunt true) :
    exec (.laneCharacter i c false) s = .next (s.withLane i (flagged (huntingAfresh (s.lane i)) .noise)) := by
  rw [exec_laneCharacter_eq, receiveCharacter_of_noise hocc hstep, enterHunt_hunt]

/-- Settles O36, hunt state by hunt state as R10's table has them. -/
theorem partialFramesAreDiscarded : Obligations.PartialFramesAreDiscarded := by
  rintro s i char l next rfl rfl
  refine ⟨fun hempty stopLow => ?_, fun hocc => ?_, fun h => ?_, fun h => ?_, fun hocc => ?_⟩
  · rw [exec_laneCharacter_eq, State.receiveCharacter, hempty]
    rfl
  · rw [exec_laneCharacter_eq, receiveCharacter_of_stopLow hocc]
  · rw [exec_gapTimeout_eq, if_pos h]
  · rw [exec_gapTimeout_eq, if_neg h]
  · cases hhunt : (s.lane i).hunt with
    | hunt =>
      by_cases hc : char = 0x5A#8
      · exact (exec_laneCharacter_of_go hocc (next := .sync) Hunt.noConfusion (by simp [hhunt, huntStep, hc])).trans
          (by rw [if_pos hc])
      · exact (exec_laneCharacter_of_noise hocc (by simp [hhunt, huntStep, hc])).trans (by rw [if_neg hc])
    | sync =>
      by_cases happ : char = 0xC3#8
      · exact (exec_laneCharacter_of_go hocc (next := .length .app) Hunt.noConfusion
          (by simp [hhunt, huntStep, happ])).trans (by rw [if_pos happ])
      by_cases hloader : char = 0x3C#8
      · exact (exec_laneCharacter_of_go hocc (next := .length .loader) Hunt.noConfusion
          (by simp [hhunt, huntStep, hloader])).trans (by rw [if_neg happ, if_pos hloader])
      by_cases hsync : char = 0x5A#8
      · dsimp only
        rw [exec_laneCharacter_eq, receiveCharacter_of_noise (next := .sync) hocc (by simp [hhunt, huntStep, hsync]),
          enterHunt_of_ne _ Hunt.noConfusion, if_neg happ, if_neg hloader, if_pos hsync]
      · exact (exec_laneCharacter_of_noise hocc (by simp [hhunt, huntStep, happ, hloader, hsync])).trans
          (by rw [if_neg happ, if_neg hloader, if_neg hsync])
    | length framing =>
      by_cases hc : char.toNat ≤ 240
      · exact (exec_laneCharacter_of_go hocc (next := .kind framing char.toNat) Hunt.noConfusion
          (by simp [hhunt, huntStep, Config.maxPayload, hc])).trans (by rw [if_pos hc])
      · exact (exec_laneCharacter_of_noise hocc (by simp [hhunt, huntStep, Config.maxPayload, hc])).trans
          (by rw [if_neg hc])
    | kind framing length =>
      exact exec_laneCharacter_of_go hocc Hunt.noConfusion (by rw [hhunt, huntStep])
    | sequence framing length kind =>
      refine exec_laneCharacter_of_go hocc ?_ ?_
      · split <;> exact Hunt.noConfusion
      · simp only [hhunt, huntStep, huntPayload, List.length_nil, Nat.le_zero]
    | payload framing length kind seq got =>
      refine exec_laneCharacter_of_go hocc ?_ ?_
      · split <;> exact Hunt.noConfusion
      · simp only [hhunt, huntStep, huntPayload, List.length_append, List.length_cons, List.length_nil]
    | check framing kind seq payload first =>
      cases first with
      | none => exact exec_laneCharacter_of_go hocc Hunt.noConfusion (by rw [hhunt, huntStep])
      | some first =>
        dsimp only
        rw [exec_laneCharacter_eq, receiveCharacter_of_complete hocc (by rw [hhunt, huntStep]), exec_frameCommand_eq]

/-! ### Complete frames (R13, R15 to R17) -/

/-- A valid frame of the lane's own framing is handled by a receiver that hunts afresh. -/
theorem receiveFrame_of_valid {s : State} {i : LaneId} {f : RawFrame} (hocc : (s.lane i).state.occupied = true)
    (hvalid : f.check = checkWord f.kind f.seq f.payload) (hmode : f.framing = (s.lane i).mode) :
    s.receiveFrame i f = (s.withLane i (huntingAfresh (s.lane i))).handleFrame i f := by
  have hok : frameValid f = true := beq_iff_eq.2 hvalid
  simp only [State.receiveFrame, hocc, hok, hmode, if_true]
  rfl

theorem handleFrame_of_ne_mark {s : State} {i : LaneId} {f : RawFrame} (h : f.kind ≠ 0x20#8) :
    s.handleFrame i f = s.takeFrame i f := if_neg h

theorem markRoom_eq (l : Lane) : l.markRoom = decide (l.marks.length < 4) := rfl

theorem instrumentOfByte_isNone_iff (b : Byte) : (instrumentOfByte b).isNone = true ↔ b.toNat < 1 ∨ 4 < b.toNat := by
  unfold instrumentOfByte
  split
  · simp only [Option.isNone_some, Bool.false_eq_true, false_iff]
    omega
  · simp only [Option.isNone_none, true_iff]
    omega

theorem frameMalformed_eq_true_iff (kind : Byte) (payload : List Byte) :
    frameMalformed kind payload = true ↔ Malformed kind payload := by
  unfold frameMalformed Malformed kindHello kindText kindResult kindClaim kindRelease
  by_cases hopen : kind = 0x10#8 ∨ kind = 0x12#8
  · rw [if_pos hopen]
    rcases hopen with rfl | rfl <;> simp
  · rw [if_neg hopen]
    by_cases hresult : kind = 0x11#8
    · subst hresult
      simp [resultMalformed, or_assoc]
    · rw [if_neg hresult]
      by_cases hinstrument : kind = 0x13#8 ∨ kind = 0x14#8
      · rw [if_pos hinstrument, instrumentMalformed, Bool.or_eq_true, bne_iff_ne, instrumentOfByte_isNone_iff]
        rcases hinstrument with rfl | rfl <;> simp
      · rw [if_neg hinstrument]
        obtain ⟨hhello, htext⟩ := not_or.1 hopen
        obtain ⟨hclaim, hrelease⟩ := not_or.1 hinstrument
        simp [hhello, htext, hclaim, hrelease, hresult]

/-- What a valid frame that is no MARK does to the lane that takes it, check by check (R17). -/
def Machine.Lane.takeFrame (l : Lane) (f : RawFrame) : Lane :=
  if l.markRoom = false then l
  else if l.lastTaken = some f.seq then
    { owing l f.seq .taken with dupCount := satIncr Config.counterMax l.dupCount }
  else if Config.rxBufferSize ≤ l.rxBuffer.length then owing l f.seq .again
  else if l.mode = .app ∧ frameMalformed f.kind f.payload = true then
    flagged { owing l f.seq .taken with lastTaken := some f.seq } .noise
  else
    { owing l f.seq .taken with
      lastTaken := some f.seq
      rxBuffer := l.rxBuffer ++ [{ framing := f.framing, kind := f.kind, seq := f.seq, payload := f.payload }] }

theorem takeFrame_eq_withLane (s : State) (i : LaneId) (l : Lane) (f : RawFrame) :
    (s.withLane i l).takeFrame i f = s.withLane i (l.takeFrame f) := by
  unfold State.takeFrame Lane.takeFrame
  simp only [withLane_lane_self, withLane_updLane, withLane_setFlag]
  split
  · rfl
  · split
    · rfl
    · split
      · rfl
      · split <;> rfl

/-- The checks of R17 in their order, and what each makes of the lane. -/
theorem takeFrame_spec (l : Lane) (f : RawFrame) :
    (4 ≤ l.marks.length → l.takeFrame f = l)
      ∧ (l.marks.length < 4 →
        (l.lastTaken = some f.seq → l.takeFrame f =
            { owing l f.seq .taken with dupCount := if l.dupCount < 65535 then l.dupCount + 1 else l.dupCount })
          ∧ (l.lastTaken ≠ some f.seq →
            (2 ≤ l.rxBuffer.length → l.takeFrame f = owing l f.seq .again)
              ∧ (l.rxBuffer.length < 2 →
                ((l.mode = .app ∧ Malformed f.kind f.payload) →
                    l.takeFrame f = flagged { owing l f.seq .taken with lastTaken := some f.seq } .noise)
                  ∧ (¬(l.mode = .app ∧ Malformed f.kind f.payload) → l.takeFrame f =
                    { owing l f.seq .taken with
                      lastTaken := some f.seq
                      rxBuffer := l.rxBuffer ++ [⟨f.framing, f.kind, f.seq, f.payload⟩] })))) := by
  have hmalformed := frameMalformed_eq_true_iff f.kind f.payload
  refine ⟨fun hfull => ?_, fun hm => ?_⟩
  · have hroom : l.markRoom = false := decide_eq_false (Nat.not_lt.2 hfull)
    exact if_pos hroom
  · have hroom : ¬l.markRoom = false := by simpa [markRoom_eq] using hm
    refine ⟨fun hdup => ?_, fun hdup => ⟨fun hrx => ?_, fun hrx => ⟨fun hbad => ?_, fun hgood => ?_⟩⟩⟩
    · exact (if_neg hroom).trans (if_pos hdup)
    · exact (if_neg hroom).trans ((if_neg hdup).trans (if_pos hrx))
    · exact (if_neg hroom).trans ((if_neg hdup).trans ((if_neg (Nat.not_le.2 hrx)).trans
        (if_pos ⟨hbad.1, hmalformed.2 hbad.2⟩)))
    · exact (if_neg hroom).trans ((if_neg hdup).trans ((if_neg (Nat.not_le.2 hrx)).trans
        (if_neg fun h => hgood ⟨h.1, hmalformed.1 h.2⟩)))

/-- Settles O37, check by check in their order. -/
theorem receivedFrameIsAnsweredInOrder : Obligations.ReceivedFrameIsAnsweredInOrder := by
  rintro s i f l hocc hmode hkind hvalid rfl
  have hexec : exec (.laneFrameReceived i f) s
      = .next (s.withLane i ((huntingAfresh (s.lane i)).takeFrame f)) := by
    rw [exec_laneFrameReceived_eq, receiveFrame_of_valid hocc hvalid hmode, handleFrame_of_ne_mark hkind,
      takeFrame_eq_withLane]
  rw [hexec]
  obtain ⟨hdiscarded, htaken⟩ := takeFrame_spec (huntingAfresh (s.lane i)) f
  refine ⟨fun hfull => ?_, fun hm hdup => ?_, fun hm hdup hrx => ?_, fun hm hdup hrx hbad => ?_,
    fun hm hdup hrx hgood => ?_⟩
  · rw [hdiscarded hfull]
  · rw [(htaken hm).1 hdup]
  · rw [((htaken hm).2 hdup).1 hrx]
  · rw [(((htaken hm).2 hdup).2 hrx).1 hbad]
  · rw [(((htaken hm).2 hdup).2 hrx).2 hgood]

/-- A frame with a bad check word (R13). -/
theorem receiveFrame_of_invalid {s : State} {i : LaneId} {f : RawFrame} (hocc : (s.lane i).state.occupied = true)
    (hbad : f.check ≠ checkWord f.kind f.seq f.payload) :
    s.receiveFrame i f = (s.withLane i (huntingAfresh (s.lane i))).checkFailed i f := by
  have hno : frameValid f = false := beq_eq_false_iff_ne.2 hbad
  simp only [State.receiveFrame, hocc, hno, if_true, Bool.false_eq_true, if_false]
  rfl

theorem checkFailed_eq_withLane (s : State) (i : LaneId) (l : Lane) (f : RawFrame) :
    (s.withLane i l).checkFailed i f = s.withLane i
      (if f.kind ≠ 0x20#8 ∧ l.marks.length < 4 then owing (flagged l .rxCheck) f.seq .spoilt
      else flagged l .rxCheck) := by
  rw [State.checkFailed, withLane_setFlag, withLane_updLane]
  refine congrArg _ (if_congr ?_ rfl rfl)
  rw [Bool.and_eq_true, bne_iff_ne, markRoom_eq, decide_eq_true_iff]
  rfl

/-- Settles O38. -/
theorem badCheckWordIsSpoilt : Obligations.BadCheckWordIsSpoilt := by
  rintro s i framing kind seq payload check l hocc hbad rfl
  refine ⟨fun hkind => ?_, fun hkind => ?_⟩
  · subst hkind
    rw [exec_mark_eq, receiveFrame_of_invalid hocc hbad, checkFailed_eq_withLane, if_neg (by simp)]
  · rw [exec_laneFrameReceived_eq, receiveFrame_of_invalid hocc hbad, checkFailed_eq_withLane]
    simp only [ne_eq, hkind, not_false_eq_true, true_and]
    rfl

end Sys2Proof
end

section
/-! PROOFS of the statements about MARKs and about frames that arrive character by character. -/

namespace Sys2Proof

open Sys2Proof.Machine

/-! ### MARKs (R15, R20, R21) -/

theorem markCodeOf_eq_none_iff (b : Byte) : markCodeOf b = none ↔ 2 < b.toNat := by
  have hval : ∀ n : Nat, n < 256 → b ≠ BitVec.ofNat 8 n → b.toNat ≠ n := fun n hn h he =>
    h (BitVec.eq_of_toNat_eq (by rw [he, BitVec.toNat_ofNat, Nat.mod_eq_of_lt hn]))
  unfold markCodeOf
  split
  · subst_vars; decide
  · split
    · subst_vars; decide
    · split
      · subst_vars; decide
      · have h0 := hval 0 (by decide) ‹_›
        have h1 := hval 1 (by decide) ‹_›
        have h2 := hval 2 (by decide) ‹_›
        simp only [true_iff]
        omega

theorem markOfPayload_eq_none_iff (payload : List Byte) : markOfPayload payload = none ↔ MarkMalformed payload := by
  unfold markOfPayload MarkMalformed
  split
  · rename_i hlen
    rw [Option.map_eq_none_iff, markCodeOf_eq_none_iff]
    exact ⟨.inr, fun h => h.resolve_left fun hne => hne hlen⟩
  · rename_i hlen
    exact ⟨fun _ => .inl hlen, fun _ => rfl⟩

theorem handleFrame_of_mark {s : State} {i : LaneId} {f : RawFrame} (h : f.kind = 0x20#8) : s.handleFrame i f =
    match markOfPayload f.payload with
    | none => s.setFlag i .noise
    | some (seq, code) => s.takeMark i seq code := if_pos h

theorem takeMark_of_none {s : State} {i : LaneId} {seq : Byte} {code : MarkCode} (h : (s.lane i).inFlight = none) :
    s.takeMark i seq code = s := by
  simp only [State.takeMark, h]

theorem takeMark_of_ne {s : State} {i : LaneId} {seq : Byte} {code : MarkCode} {f : InFlight}
    (hf : (s.lane i).inFlight = some f) (h : seq ≠ f.seq) : s.takeMark i seq code = s := by
  simp only [State.takeMark, hf, ne_eq, h, not_false_eq_true, if_true]

theorem takeMark_taken {s : State} {i : LaneId} {f : InFlight} (hf : (s.lane i).inFlight = some f) :
    s.takeMark i f.seq .taken = s.withLane i { s.lane i with inFlight := none } := by
  simp only [State.takeMark, hf, ne_eq, not_true_eq_false, if_false, updLane_eq_withLane]

theorem takeMark_again {s : State} {i : LaneId} {f : InFlight} {n : Nat} (hf : (s.lane i).inFlight = some f)
    (hphase : f.phase = .awaiting n) :
    s.takeMark i f.seq .again = s.countResend i f (.paused (s.lane i).settings.retryPause) := by
  simp only [State.takeMark, hf, ne_eq, not_true_eq_false, if_false, hphase]

theorem takeMark_spoilt {s : State} {i : LaneId} {f : InFlight} {n : Nat} (hf : (s.lane i).inFlight = some f)
    (hphase : f.phase = .awaiting n) :
    s.takeMark i f.seq .spoilt = (s.setFlag i .txSpoilt).countResend i f .due := by
  simp only [State.takeMark, hf, ne_eq, not_true_eq_false, if_false, hphase]

/-- A MARK AGAIN or SPOILT that no frame awaits changes nothing (R20). -/
theorem takeMark_of_not_awaiting {s : State} {i : LaneId} {f : InFlight} {code : MarkCode}
    (hf : (s.lane i).inFlight = some f) (hcode : code ≠ .taken) (hphase : ∀ n, f.phase ≠ .awaiting n) :
    s.takeMark i f.seq code = s := by
  simp only [State.takeMark, hf, ne_eq, not_true_eq_false, if_false]
  split
  · exact absurd rfl hcode
  · exact absurd ‹_› (hphase _)
  · exact absurd ‹_› (hphase _)
  · rfl
  · rfl

/-- A valid MARK with a code, on a lane whose receiver hunts afresh. -/
theorem exec_mark_of_code {s : State} {i : LaneId} {seq marked code : Byte} {check : Half} {c : MarkCode}
    (hocc : (s.lane i).state.occupied = true) (hcheck : check = checkWord 0x20#8 seq [marked, code])
    (hcode : markCodeOf code = some c) : exec (.mark i (s.lane i).mode seq [marked, code] check) s =
      .next ((s.withLane i (huntingAfresh (s.lane i))).takeMark i marked c) := by
  have hmark : markOfPayload [marked, code] = some (marked, c) := by
    show (markCodeOf code).map _ = _
    rw [hcode]
    rfl
  rw [exec_mark_eq, receiveFrame_of_valid hocc hcheck rfl, handleFrame_of_mark rfl]
  simp only [hmark]

/-- Settles O40, along R20's table. -/
theorem markActsOnTheFrameInFlight : Obligations.MarkActsOnTheFrameInFlight := by
  rintro s i seq marked code check l hocc hcheck rfl
  have hlane := withLane_lane_self s i (huntingAfresh (s.lane i))
  have hknown : code.toNat ≤ 2 → ∃ c, markCodeOf code = some c := fun h =>
    Option.ne_none_iff_exists'.1 (mt (markCodeOf_eq_none_iff code).1 (by omega))
  refine ⟨fun payload hbad => ?_, fun hnone hcode => ?_, fun f hf hcode => ⟨fun hne => ?_, fun heq htaken => ?_,
    fun n hphase heq hagain hlimit => ?_, fun n hphase heq hspoilt hlimit => ?_, fun heq hcode0 hphase => ?_⟩⟩
  · refine (exec_mark_eq i _ seq payload _ s).trans ?_
    rw [receiveFrame_of_valid hocc rfl rfl, handleFrame_of_mark rfl]
    simp only [(markOfPayload_eq_none_iff payload).2 hbad, withLane_setFlag]
  · obtain ⟨c, hc⟩ := hknown hcode
    refine (exec_mark_of_code hocc hcheck hc).trans ?_
    rw [takeMark_of_none (by rw [hlane]; exact hnone)]
  · obtain ⟨c, hc⟩ := hknown hcode
    refine (exec_mark_of_code hocc hcheck hc).trans ?_
    rw [takeMark_of_ne (by rw [hlane]; exact hf) hne]
  · subst heq htaken
    refine (exec_mark_of_code hocc hcheck (c := .taken) rfl).trans ?_
    rw [takeMark_taken (by rw [hlane]; exact hf), hlane, withLane_withLane]
  · subst heq hagain
    refine (exec_mark_of_code hocc hcheck (c := .again) rfl).trans ?_
    rw [takeMark_again (by rw [hlane]; exact hf) hphase, countResend_of_lt _ (by rw [hlane]; exact hlimit), hlane,
      withLane_withLane]
  · subst heq hspoilt
    refine (exec_mark_of_code hocc hcheck (c := .spoilt) rfl).trans ?_
    rw [takeMark_spoilt (by rw [hlane]; exact hf) hphase, withLane_setFlag,
      countResend_of_lt _ (by rw [withLane_lane_self]; exact hlimit), withLane_lane_self, withLane_withLane]
    rfl
  · subst heq
    obtain ⟨c, hc⟩ := hknown hcode
    have hne : c ≠ .taken := by
      rintro rfl
      refine hcode0 ?_
      unfold markCodeOf at hc
      split at hc
      · assumption
      · split at hc
        · cases hc
        · split at hc <;> cases hc
    refine (exec_mark_of_code hocc hcheck hc).trans ?_
    rw [takeMark_of_not_awaiting (by rw [hlane]; exact hf) hne hphase]

/-! ### A frame by its characters (R10) -/

/-- Characters on a lane, each with a good stop bit. -/
def characters (i : LaneId) (cs : List Byte) : List Instr := cs.map fun c => .laneCharacter i c false

theorem runAll_cons {c : Instr} {cs : List Instr} {s t : State} (h : exec c s = .next t) :
    runAll (c :: cs) s = runAll cs t := by
  simp only [runAll, h]

theorem enterHunt_enterHunt (l : Lane) (h h' : Hunt) : (l.enterHunt h).enterHunt h' = l.enterHunt h' := rfl

section

variable {s : State} {i : LaneId} (hocc : (s.lane i).state.occupied = true)
include hocc

/-- One character moves a receiver from hunt state to hunt state, and what it left of the last one is forgotten. -/
theorem runAll_character {h next : Hunt} {c : Byte} {cs : List Byte} (hstep : huntStep h c = .go next false) :
    runAll (characters i (c :: cs)) (s.withLane i ((s.lane i).enterHunt h))
      = runAll (characters i cs) (s.withLane i ((s.lane i).enterHunt next)) := by
  refine runAll_cons ((exec_laneCharacter_eq _ _ _ _).trans (congrArg _ ?_))
  rw [receiveCharacter_of_go (next := next), withLane_lane_self, withLane_withLane, enterHunt_enterHunt]
  · rw [withLane_lane_self]; exact hocc
  · rw [withLane_lane_self]; exact hstep

/-- The payload bytes take the receiver to the check word. -/
theorem runAll_payload {framing : Framing} {length : Nat} {kind seq : Byte} {rest : List Byte} (got payload : List Byte)
    (hlen : got.length + payload.length = length) :
    runAll (characters i (payload ++ rest))
        (s.withLane i ((s.lane i).enterHunt (huntPayload framing length kind seq got)))
      = runAll (characters i rest)
        (s.withLane i ((s.lane i).enterHunt (.check framing kind seq (got ++ payload) none))) := by
  induction payload generalizing got with
  | nil =>
    have hdone : length ≤ got.length := by simp only [List.length_nil] at hlen; omega
    rw [huntPayload, if_pos hdone, List.append_nil, List.nil_append]
  | cons c payload ih =>
    simp only [List.length_cons] at hlen
    rw [huntPayload, if_neg (by omega), List.cons_append,
      runAll_character hocc (next := huntPayload framing length kind seq (got ++ [c])) rfl, ih]
    · rw [List.append_assoc]
      rfl
    · simp only [List.length_append, List.length_cons, List.length_nil]; omega

/-- Handling a complete frame forgets the hunt state it was assembled in. -/
theorem receiveFrame_enterHunt (h : Hunt) (f : RawFrame) :
    (s.withLane i ((s.lane i).enterHunt h)).receiveFrame i f = s.receiveFrame i f := by
  have hlane : ((s.lane i).enterHunt h).state.occupied = true := hocc
  simp only [State.receiveFrame, withLane_lane_self, withLane_withLane, updLane_eq_withLane, hlane, hocc, if_true]
  rfl

theorem runAll_check {framing : Framing} {kind seq : Byte} {payload : List Byte} (check : Half) :
    runAll (characters i (le16 check)) (s.withLane i ((s.lane i).enterHunt (.check framing kind seq payload none)))
      = .next (s.receiveFrame i
        { framing := framing, kind := kind, seq := seq, payload := payload, check := check }) := by
  rw [le16, runAll_character hocc (next := .check framing kind seq payload (some (check.setWidth 8))) rfl]
  refine runAll_cons ((exec_laneCharacter_eq _ _ _ _).trans (congrArg _ ?_))
  rw [receiveCharacter_of_complete (f := { framing := framing, kind := kind, seq := seq, payload := payload
                                           check := half (check.setWidth 8) ((check >>> 8).setWidth 8) }),
    receiveFrame_enterHunt hocc, half_le16]
  · rw [withLane_lane_self]; exact hocc
  · rw [withLane_lane_self]; rfl

/-- A whole frame, its second sync byte given by what it makes of the hunt state. -/
theorem runAll_frame {framing : Framing} {kind seq sync : Byte} {payload : List Byte} (check : Half)
    (hhunt : (s.lane i).hunt = .hunt) (hlen : payload.length ≤ 240)
    (hsync : huntStep .sync sync = .go (.length framing) false) :
    runAll (characters i ([0x5A#8, sync, byteOf payload.length, kind, seq] ++ payload ++ le16 check)) s
      = .next (s.receiveFrame i
        { framing := framing, kind := kind, seq := seq, payload := payload, check := check }) := by
  have hlength : (byteOf payload.length).toNat = payload.length := byteOf_toNat (by omega)
  have hcount : huntStep (.length framing) (byteOf payload.length) = .go (.kind framing payload.length) false := by
    simp only [huntStep, hlength, Config.maxPayload, hlen, if_true]
  have hfirst : exec (.laneCharacter i 0x5A#8 false) s = .next (s.withLane i ((s.lane i).enterHunt .sync)) := by
    rw [exec_laneCharacter_eq, receiveCharacter_of_go hocc (by rw [hhunt]; rfl)]
  rw [List.append_assoc]
  calc _ = runAll (characters i (sync :: byteOf payload.length :: kind :: seq :: (payload ++ le16 check)))
        (s.withLane i ((s.lane i).enterHunt .sync)) := runAll_cons hfirst
    _ = runAll (characters i (kind :: seq :: (payload ++ le16 check)))
        (s.withLane i ((s.lane i).enterHunt (.kind framing payload.length))) := by
      rw [runAll_character hocc hsync, runAll_character hocc hcount]
    _ = runAll (characters i (payload ++ le16 check))
        (s.withLane i ((s.lane i).enterHunt (huntPayload framing payload.length kind seq []))) := by
      rw [runAll_character hocc (next := .sequence framing payload.length kind) rfl, runAll_character hocc rfl]
    _ = _ := by
      rw [runAll_payload hocc [] payload (Nat.zero_add _), runAll_check hocc, List.nil_append]

end

/-- Settles O35: from sync pair to check word along R10's table, with the payload by induction. -/
theorem frameByCharactersIsTheFrame : Obligations.FrameByCharactersIsTheFrame := by
  intro s i framing kind seq payload check hocc hhunt hlen
  rw [exec_frameCommand_eq]
  cases framing with
  | app => exact runAll_frame hocc check hhunt hlen rfl
  | loader => exact runAll_frame hocc check hhunt hlen rfl

end Sys2Proof
end

section
/-! PROOFS of the statements about every order: its taking, its refusal, its one ANSWER, and what no command touches. -/

namespace Sys2Proof

open Sys2Proof.Machine

/-! ### A command that serves an order (R171 to R173, R194) -/

/-- A command takes the orders that are `mine`, checks them by `check` and acts on them by `act`. -/
def Serves {α : Type} (c : Instr) (mine : Order → Bool) (check : State → Order → Except RefusalCode α)
    (act : α → State → State × AnswerBody) : Prop := ∀ s, exec c s = .next (s.serve mine check act)

theorem isKind_of_kind {o : Order} {k : OrderKind} (h : o.kind = k.code) : o.isKind k = true := beq_iff_eq.2 h

theorem enterBeacon_choices (u : State) (n : Nat) :
    { u with choices := n }.enterBeacon = { u.enterBeacon with choices := n } := by
  have hcases : ∀ v : State, v = u ∨ v = { u with choices := n } → v.enterBeacon =
      if u.beaconDue && !u.urgentFull then
        { v with
          heartbeat := !u.heartbeat, urgent := u.urgent ++ [.beacon { u with heartbeat := !u.heartbeat }.buildBeacon]
          holding := Vector.replicate 16 0#9, beaconDue := false, intervalTimer := some u.interval
          spacingTimer := some Config.beaconSpacing }
      else v := by
    rintro v (rfl | rfl) <;> rfl
  rw [hcases u (.inl rfl), hcases _ (.inr rfl)]
  split <;> rfl

/-- Behind what the action left comes the ANSWER, with or without a beacon ahead of it. -/
theorem beaconBeforeAnswer_answerFollows (s u : State) (o : Order) (b : AnswerBody) :
    AnswerFollows s u ((u.beaconBeforeAnswer s.beaconDue).finishOrder o b) o b := by
  unfold AnswerFollows
  rcases beaconBeforeAnswer_cases u s.beaconDue with ⟨hwas, hdue, hroom, h⟩ | ⟨hno, h⟩
  · rw [if_pos ⟨hwas, hdue, hroom⟩, h]
    split
    · exact .inr ⟨u.enterBeacon, exec_beaconEntry_eq u, by rw [enterBeacon_choices]; rfl⟩
    · exact .inl rfl
  · rw [if_neg, h]
    · rfl
    · rintro ⟨hwas, hdue, hroom⟩
      rcases hno with hno | hno | hno
      · rw [hwas] at hno; cases hno
      · rw [hdue] at hno; cases hno
      · omega

section

variable {α : Type} {c : Instr} {mine : Order → Bool} {check : State → Order → Except RefusalCode α}
  {act : α → State → State × AnswerBody} {s u : State} {o : Order} {rest : List Order} {b : AnswerBody} {a : α}

/-- A ready order whose check fails. -/
theorem Serves.refused (h : Serves c mine check act) (hready : OrderReady s o rest) (hm : mine o = true)
    {code : RefusalCode} (hc : check (s.taken o rest) o = .error code) :
    exec c s = .next (s.answered o rest (.refused code)) := by
  rw [h, serve_refused_of_ready hready hm hc]

/-- A ready order whose check passes, its action and its ANSWER in R194's two orders. -/
theorem Serves.answerFollows (h : Serves c mine check act) (hready : OrderReady s o rest) (hm : mine o = true)
    (hc : check (s.taken o rest) o = .ok a) (hact : act a (s.taken o rest) = (u, b)) :
    ∃ t, exec c s = .next t ∧ AnswerFollows s u t o b := by
  have hact' : act a { s with ingress := rest, currentOrder := some o, answerReserved := true } = (u, b) := hact
  refine ⟨_, h s, ?_⟩
  rw [serve_ok_of_ready hready hm hc, hact']
  exact beaconBeforeAnswer_answerFollows s u o b

/-- A ready order whose action makes no beacon due. -/
theorem Serves.finished (h : Serves c mine check act) (hready : OrderReady s o rest) (hm : mine o = true)
    (hc : check (s.taken o rest) o = .ok a) (hact : act a (s.taken o rest) = (u, b))
    (hdue : u.beaconDue = s.beaconDue) : exec c s = .next (u.finished o b) := by
  obtain ⟨t, hexec, hfollows⟩ := h.answerFollows hready hm hc hact
  rw [AnswerFollows, if_neg] at hfollows
  · rw [hexec, hfollows]
  · rintro ⟨hwas, hnow, -⟩
    rw [hdue, hwas] at hnow
    cases hnow

/-- A ready order whose action replaces one lane. -/
theorem Serves.withLane (h : Serves c mine check act) (hready : OrderReady s o rest) (hm : mine o = true)
    (hc : check (s.taken o rest) o = .ok a) {i : LaneId} {l : Lane}
    (hact : act a (s.taken o rest) = ((s.taken o rest).withLane i l, b)) :
    exec c s = .next ((s.answered o rest b).withLane i l) := by
  rw [h.finished hready hm hc hact rfl]
  obtain ⟨-, -, hcurrent, hreserved, -⟩ := hready
  simp only [State.finished, State.withLane, State.taken, State.answered, hcurrent, hreserved]

end

/-! ### The orders and their commands -/

theorem serves_step : Serves .step (fun o => o.isKind .step) checkStep actStep := fun _ => rfl
theorem serves_abort : Serves .abort (fun o => o.isKind .abort) checkAbort actAbort := fun _ => rfl
theorem serves_extend : Serves .extend (fun o => o.isKind .extend) checkExtend actExtend := fun _ => rfl
theorem serves_relay : Serves .relay (fun o => o.isKind .relay) checkRelay actRelay := fun _ => rfl
theorem serves_line : Serves .line (fun o => o.isKind .line) checkLine actLine := fun _ => rfl
theorem serves_laneSet : Serves .laneSet (fun o => o.isKind .laneSet) checkLaneSet actLaneSet := fun _ => rfl
theorem serves_instrumentSet : Serves .instrumentSet (fun o => o.isKind .instrumentSet)
    (fun _ o => parseInstrumentSet o.body) actInstrumentSet := fun _ => rfl
theorem serves_beaconSet : Serves .beaconSet (fun o => o.isKind .beaconSet) (fun _ o => parseBeaconSet o.body)
    actBeaconSet := fun _ => rfl
theorem serves_loadLimit : Serves .loadLimit (fun o => o.isKind .load && !o.names .group) checkLoadLimit
    actLoadLimit := fun _ => rfl
theorem serves_loadGroup : Serves .loadGroup (fun o => o.isKind .load && o.names .group) (fun _ o => parseLoad o.body)
    actLoadGroup := fun _ => rfl
theorem serves_readLimit : Serves .readLimit
    (fun o => o.isKind .read && !o.names .group && !o.names .roster && !o.names .board) (fun _ o => parseRead o.body)
    (fun a s => s.readTable a s.limitImage) := fun _ => rfl
theorem serves_readGroup : Serves .readGroup (fun o => o.isKind .read && o.names .group) (fun _ o => parseRead o.body)
    (fun a s => s.readTable a s.groupImage) := fun _ => rfl
theorem serves_readRoster : Serves .readRoster (fun o => o.isKind .read && o.names .roster)
    (fun _ o => parseRead o.body) (fun a s => s.readTable a (s.laneImage rosterBytes)) := fun _ => rfl
theorem serves_readBoard : Serves .readBoard (fun o => o.isKind .read && o.names .board)
    (fun _ o => parseRead o.body) (fun a s => s.readTable a (s.laneImage boardImageBytes)) := fun _ => rfl
theorem serves_clearVerdict : Serves .clearVerdict (fun o => o.isKind .clearVerdict) checkLanes actClearVerdict :=
  fun _ => rfl
theorem serves_unlatch : Serves .unlatch (fun o => o.isKind .unlatch) checkLanes actUnlatch := fun _ => rfl
theorem serves_clearFlags : Serves .clearFlags (fun o => o.isKind .clearFlags) checkLanes actClearFlags := fun _ => rfl
theorem serves_resume : Serves .resume (fun o => o.isKind .resume) checkResume actResume := fun _ => rfl
theorem serves_start : Serves .start (fun o => o.isKind .start) (fun _ o => parseEmpty o.body) actStart := fun _ => rfl
theorem serves_unknownOrderKind : Serves .unknownOrderKind (fun o => !o.known)
    (fun _ _ => (.error .badOrder : Except RefusalCode Unit)) (fun _ s => (s, .refused .badOrder)) := fun _ => rfl

/-! ### What an order's action keeps (R173) -/

/-- From one state to another no ANSWER joins the urgent queue, and the ingress queue and the queue of commands stay as
they are. -/
structure Unanswered (s t : State) : Prop where
  pending : t.pending = s.pending
  ingress : t.ingress = s.ingress
  answers : t.urgent.filter isAnswer = s.urgent.filter isAnswer

theorem Unanswered.refl (s : State) : Unanswered s s := ⟨rfl, rfl, rfl⟩

theorem Unanswered.trans {s t u : State} (h : Unanswered s t) (g : Unanswered t u) : Unanswered s u :=
  ⟨g.pending.trans h.pending, g.ingress.trans h.ingress, g.answers.trans h.answers⟩

theorem updLane_unanswered (s : State) (i : LaneId) (f : Lane → Lane) : Unanswered s (s.updLane i f) := ⟨rfl, rfl, rfl⟩

theorem updInstrument_unanswered (s : State) (k : InstrumentId) (f : Instrument → Instrument) :
    Unanswered s (s.updInstrument k f) := ⟨rfl, rfl, rfl⟩

theorem Machine.StepFrame.unanswered {s t : State} (h : StepFrame s t) : Unanswered s t := by
  rw [h]; exact ⟨rfl, rfl, rfl⟩

theorem Machine.BeaconFrame.unanswered {s t : State} (h : BeaconFrame s t) : Unanswered s t := by
  rw [h]; exact ⟨rfl, rfl, rfl⟩

theorem recordEvent_unanswered (s : State) (i : LaneId) (k : EventKind) : Unanswered s (s.recordEvent i k) :=
  (recordEvent_frame s i k).unanswered

theorem offerUrgent_unanswered (s : State) {r : UrgentReport} (hr : isAnswer r = false) :
    Unanswered s (s.offerUrgent r) := by
  rcases offerUrgent_cases s r with ⟨-, h⟩ | ⟨-, h⟩ <;> rw [h]
  · exact ⟨rfl, rfl, by simp [hr]⟩
  · exact ⟨rfl, rfl, rfl⟩

theorem reportInstrument_unanswered (s : State) (k : InstrumentId) (e : InstrumentEvent) (i : LaneId) (n : Nat) :
    Unanswered s (s.reportInstrument k e i n) :=
  (offerUrgent_unanswered s rfl).trans (recordEvent_unanswered _ i .instrument)

theorem grant_unanswered (s : State) (k : InstrumentId) (i : LaneId) : Unanswered s (s.grant k i) :=
  Unanswered.trans (t := (s.updInstrument k fun n => n.granted i).placeControl i .grant k) ⟨rfl, rfl, rfl⟩
    (reportInstrument_unanswered _ k .granted i _)

theorem chooseNext_unanswered (s : State) (k : InstrumentId) : Unanswered s (s.chooseNext k) := by
  rcases chooseNext_cases s k with ⟨i, -, h⟩ | ⟨-, h⟩ <;> rw [h]
  · exact grant_unanswered s k i
  · exact .refl s

theorem loseInstrument_unanswered (i : LaneId) (s : State) (k : InstrumentId) :
    Unanswered s (State.loseInstrument i s k) := by
  unfold State.loseInstrument
  refine Unanswered.trans ?_ (updInstrument_unanswered _ k _)
  split
  · exact (updInstrument_unanswered s k _).trans
      ((reportInstrument_unanswered _ k .dropped i 0).trans (chooseNext_unanswered _ k))
  · exact .refl s

theorem loseInstruments_unanswered (s : State) (i : LaneId) : Unanswered s (s.loseInstruments i) :=
  foldl_keeps Unanswered.refl Unanswered.trans (loseInstrument_unanswered i) _ s

theorem denyWaiters_unanswered (s : State) (k : InstrumentId) : Unanswered s (s.denyWaiters k) :=
  foldl_keeps Unanswered.refl Unanswered.trans (fun s i => by split <;> exact ⟨rfl, rfl, rfl⟩) _ s

theorem disableInstrument_unanswered (s : State) (k : InstrumentId) : Unanswered s (s.disableInstrument k) := by
  unfold State.disableInstrument
  refine Unanswered.trans (Unanswered.trans ?_ (denyWaiters_unanswered _ k)) (updInstrument_unanswered _ k _)
  split
  · exact .refl s
  · exact Unanswered.trans (t := (s.updInstrument k Instrument.freed).placeControl _ .revoke k) ⟨rfl, rfl, rfl⟩
      (reportInstrument_unanswered _ k .revoked _ 0)

theorem setInstrument_unanswered (s : State) (k : InstrumentId) (enabled : Bool) (limit : Nat) :
    Unanswered s (s.setInstrument k enabled limit) := by
  unfold State.setInstrument
  have hlimit := updInstrument_unanswered s k fun n => { n with holdLimit := limit }
  split
  · exact hlimit
  · split
    · exact hlimit.trans (updInstrument_unanswered _ k _)
    · exact hlimit.trans (disableInstrument_unanswered _ k)

theorem leaveOff_unanswered (s : State) (i : LaneId) : Unanswered s (s.leaveOff i) := by
  unfold State.leaveOff
  split
  · exact (updLane_unanswered s i _).trans (recordEvent_unanswered _ i .seated)
  · exact updLane_unanswered s i _

theorem bindOrHold_unanswered (s : State) (i : LaneId) (id : List Byte) : Unanswered s (s.bindOrHold i id) := by
  unfold State.bindOrHold
  split <;> exact (updLane_unanswered s i _).trans (recordEvent_unanswered _ i _)

theorem depart_unanswered (s : State) (i : LaneId) (cause : DepartCause) : Unanswered s (s.depart i cause) :=
  (offerUrgent_unanswered s rfl).trans ((loseEntries_frame _ i .gone).unanswered.trans
    ((updLane_unanswered _ i _).trans ((loseInstruments_unanswered _ i).trans
      ((updLane_unanswered _ i _).trans (recordEvent_unanswered _ i .departed)))))

theorem powerOffRestart_unanswered (s : State) (i : LaneId) : Unanswered s (s.powerOffRestart i) := by
  unfold State.powerOffRestart
  refine Unanswered.trans ?_ (updLane_unanswered _ i _)
  split
  · exact (loseWork_frame s i).unanswered.trans
      ((updLane_unanswered _ i _).trans (loseInstruments_unanswered _ i))
  · exact updLane_unanswered s i _

theorem switchPower_unanswered (s : State) (i : LaneId) (level : Bool) : Unanswered s (s.switchPower i level) := by
  unfold State.switchPower
  split
  · exact .refl s
  · dsimp only
    split
    · exact (updLane_unanswered s i _).trans (powerOffRestart_unanswered _ i)
    · exact updLane_unanswered s i _

theorem actLines_unanswered (s : State) (a : LineArgs) : Unanswered s (s.actLines a) := by
  unfold State.actLines
  cases hpower : a.power with
  | none =>
    cases a.pulse with
    | none => exact .refl s
    | some d => exact updLane_unanswered s a.lane _
  | some level =>
    cases a.pulse with
    | none => exact switchPower_unanswered s a.lane level
    | some d => exact (switchPower_unanswered s a.lane level).trans (updLane_unanswered _ a.lane _)

theorem disableLane_unanswered (s : State) (i : LaneId) : Unanswered s (s.disableLane i) := by
  unfold State.disableLane
  dsimp only
  split
  · exact (updLane_unanswered s i _).trans (depart_unanswered _ i .disabled)
  · exact (updLane_unanswered s i _).trans (updLane_unanswered _ i _)

theorem enableLane_unanswered (s : State) (i : LaneId) : Unanswered s (s.enableLane i) := by
  unfold State.enableLane
  dsimp only
  split
  · exact (updLane_unanswered s i _).trans (leaveOff_unanswered _ i)
  · exact updLane_unanswered s i _

theorem setAutoPower_unanswered (s : State) (i : LaneId) (level : Bool) : Unanswered s (s.setAutoPower i level) := by
  unfold State.setAutoPower
  split
  · exact .refl s
  · dsimp only
    split
    · split
      · exact (updLane_unanswered s i _).trans (switchPower_unanswered _ i true)
      · exact updLane_unanswered s i _
    · exact (updLane_unanswered s i _).trans (switchPower_unanswered _ i false)

theorem setLane_unanswered (s : State) (a : LaneSetArgs) : Unanswered s (s.setLane a) := by
  have hdisabled : ∀ u, Unanswered u (laneSetDisabled a u) := fun u => by
    unfold laneSetDisabled
    split
    · exact disableLane_unanswered u a.lane
    · exact .refl u
  have hpowered : ∀ u, Unanswered u (laneSetPowered a u) := fun u => by
    unfold laneSetPowered
    split
    · exact setAutoPower_unanswered u a.lane _
    · exact .refl u
  have henabled : ∀ u, Unanswered u (laneSetEnabled a u) := fun u => by
    unfold laneSetEnabled
    split
    · exact enableLane_unanswered u a.lane
    · exact .refl u
  rw [setLane_eq]
  exact (updLane_unanswered s a.lane _).trans ((hdisabled _).trans ((updLane_unanswered _ a.lane _).trans
    ((hpowered _).trans (henabled _))))

theorem setBeacon_unanswered (s : State) (interval : Nat) (mask : BitVec 9) (sel : Selection) :
    Unanswered s (s.setBeacon interval mask sel) := by
  unfold State.setBeacon
  have hset : Unanswered s { s with interval := interval, noticeMask := mask, selection := sel } := ⟨rfl, rfl, rfl⟩
  dsimp only
  split
  · exact hset.trans (requestEarly_frame _).unanswered
  · exact hset

theorem resumeLane_unanswered (s : State) (i : LaneId) : Unanswered s (s.resumeLane i) := by
  unfold State.resumeLane
  split
  · exact updLane_unanswered s i _
  · split
    · exact bindOrHold_unanswered s i _
    · exact updLane_unanswered s i _
  · exact updLane_unanswered s i _
  · exact updLane_unanswered s i _

theorem startAll_unanswered (s : State) : Unanswered s s.startAll := by
  unfold State.startAll
  split
  · refine Unanswered.trans (t := { s with startup := false }) ⟨rfl, rfl, rfl⟩ ?_
    refine foldl_keeps Unanswered.refl Unanswered.trans (fun s i => ?_) _ _
    unfold State.startLane
    split
    · exact leaveOff_unanswered s i
    · exact .refl s
  · exact .refl s

theorem enterBeacon_unanswered (s : State) : Unanswered s s.enterBeacon := by
  rcases enterBeacon_cases s with ⟨-, -, h⟩ | ⟨-, h⟩ <;> rw [h]
  · exact ⟨rfl, rfl, by simp [isAnswer]⟩
  · exact .refl s

theorem BeaconMayEnter.unanswered {u v : State} (h : BeaconMayEnter u v) : Unanswered u v := by
  have hchoices : ∀ n, Unanswered u { u with choices := n } := fun _ => ⟨rfl, rfl, rfl⟩
  obtain ⟨n, rfl | rfl⟩ := h
  · exact hchoices n
  · exact (hchoices n).trans (enterBeacon_unanswered _)

end Sys2Proof
end

section
/-! PROOFS of the statements about reset and about every order as such, and of the deadlines of steps. -/

namespace Sys2Proof

open Sys2Proof.Machine

/-! ### How a served order ends (R171 to R173) -/

/-- A state's order is not taken, or it is refused, or it is acted on and answered OK; an ANSWER is the last report. -/
def OrderOutcome (s t : State) : Prop :=
  t = s ∨ ∃ o rest, s.ingress = o :: rest ∧ s.currentOrder = none
    ∧ ((∃ code, t = (s.taken o rest).finishOrder o (.refused code))
      ∨ ∃ v b, Unanswered (s.taken o rest) v ∧ (∀ code, b ≠ .refused code) ∧ t = v.finishOrder o b)

/-- A RESET that took effect (R177). -/
def ResetDone (c : Instr) (s t : State) : Prop :=
  ∃ (straps : BitVec 4) (o : Order) (rest : List Order) (u : State),
    c = .reset straps ∧ s.ingress = o :: rest ∧ o.kind = 0x10#8 ∧ o.body = []
      ∧ u.pending = s.pending ∧ t = u.resetByOrder straps

theorem OrderOutcome.pending {s t : State} (h : OrderOutcome s t) : t.pending = s.pending := by
  obtain rfl | ⟨o, rest, -, -, ⟨code, rfl⟩ | ⟨v, b, hv, -, rfl⟩⟩ := h
  · rfl
  · rfl
  · exact hv.pending

/-- An order command whose action keeps no ANSWER and answers OK. -/
theorem Serves.outcome {α : Type} {c : Instr} {mine : Order → Bool} {check : State → Order → Except RefusalCode α}
    {act : α → State → State × AnswerBody} (h : Serves c mine check act) (s : State)
    (hact : ∀ u o a, check u o = .ok a → Unanswered u (act a u).1 ∧ ∀ code, (act a u).2 ≠ .refused code) :
    ∃ t, exec c s = .next t ∧ (OrderOutcome s t ∨ ResetDone c s t) := by
  refine ⟨_, h s, .inl ?_⟩
  rcases serve_cases s mine check act with hnot | ⟨o, rest, s1, hin, hcurrent, -, -, rfl, hend⟩
  · exact .inl hnot
  · refine .inr ⟨o, rest, hin, hcurrent, ?_⟩
    rcases hend with ⟨code, -, hend⟩ | ⟨a, hcheck, hend⟩
    · exact .inl ⟨code, hend⟩
    · obtain ⟨hquiet, hok⟩ := hact (s.taken o rest) o a (checked_eq_ok_iff.1 hcheck).2
      exact .inr ⟨_, _, hquiet.trans (beaconBeforeAnswer_mayEnter _ s.beaconDue).unanswered, hok, hend⟩

theorem exec_reset_eq : ∀ (straps : BitVec 4) (s : State), exec (.reset straps) s = execReset straps s := by intros; rfl

theorem reset_outcome (straps : BitVec 4) (s : State) :
    ∃ t, exec (.reset straps) s = .next t ∧ (OrderOutcome s t ∨ ResetDone (.reset straps) s t) := by
  refine ⟨_, exec_reset_eq straps s, ?_⟩
  rcases takeOrder_cases s fun o => o.isKind .reset with ⟨o, rest, hin, hcurrent, -, hmine, h⟩ | h <;> rw [h]
  · dsimp only
    cases hcheck : checked (fun _ o => parseEmpty o.body) (s.taken o rest) o with
    | error code =>
      rw [State.taken] at hcheck
      simp only [hcheck]
      exact .inl (.inr ⟨o, rest, hin, hcurrent, .inl ⟨code, rfl⟩⟩)
    | ok u =>
      have hbody : o.body = [] := by
        have hempty := (checked_eq_ok_iff.1 hcheck).2
        unfold parseEmpty at hempty
        split at hempty
        · cases hempty
        · rename_i hlen
          exact List.eq_nil_of_length_eq_zero (not_not.1 hlen)
      rw [State.taken] at hcheck
      simp only [hcheck]
      exact .inr ⟨straps, o, rest, _, rfl, hin, beq_iff_eq.1 hmine, hbody, rfl, rfl⟩
  · exact .inl (.inl rfl)

theorem readTable_unanswered (u : State) (a : TableArgs) (image : Nat → List Byte) :
    Unanswered u (u.readTable a image).1 ∧ ∀ code, (u.readTable a image).2 ≠ .refused code :=
  ⟨.refl u, fun _ h => (by cases h)⟩

theorem actStep_unanswered {u : State} {o : Order} {a : StepArgs} (h : checkStep u o = .ok a) :
    Unanswered u (actStep a u).1 ∧ ∀ code, (actStep a u).2 ≠ .refused code := by
  cases hfree : u.freeOrder with
  | nil =>
    unfold checkStep at h
    rw [notInStartup_eq_ok_iff] at h
    obtain ⟨-, h⟩ := h
    split at h
    · cases h
    · rw [hfree] at h
      split at h
      · cases h
      · simp at h
  | cons r free =>
    rw [actStep_of_cons hfree]
    exact ⟨((takeStepInto_stepFrame u r a).trans (closingCheck_frame _ r)).unanswered, fun _ h => (by cases h)⟩

theorem actAbort_unanswered (u : State) (r : RecordId) :
    Unanswered u (actAbort r u).1 ∧ ∀ code, (actAbort r u).2 ≠ .refused code := by
  have hframe := endStep_frame u r .aborted .aborted
  unfold actAbort
  dsimp only
  exact ⟨hframe.unanswered, fun _ h => (by cases h)⟩

theorem actLoadLimit_unanswered (u : State) (a : TableArgs) :
    Unanswered u (actLoadLimit a u).1 ∧ ∀ code, (actLoadLimit a u).2 ≠ .refused code := by
  unfold actLoadLimit State.loadLimits
  dsimp only
  exact ⟨⟨by rfl, by rfl, by rfl⟩, fun _ h => (by cases h)⟩

theorem actLoadGroup_unanswered (u : State) (a : TableArgs) :
    Unanswered u (actLoadGroup a u).1 ∧ ∀ code, (actLoadGroup a u).2 ≠ .refused code := by
  unfold actLoadGroup State.loadGroups
  dsimp only
  exact ⟨⟨by rfl, by rfl, by rfl⟩, fun _ h => (by cases h)⟩

theorem updLanes_unanswered (u : State) (set : LaneSet) (f : Lane → Lane) {b : AnswerBody}
    (hb : ∀ code, b ≠ .refused code) :
    Unanswered u (u.updLanes set f, b).1 ∧ ∀ code, (u.updLanes set f, b).2 ≠ .refused code :=
  ⟨(updLanes_stepFrame u set f).unanswered, hb⟩

/-- Every order command, command by command. -/
theorem order_outcome (s : State) (c : Instr) (hc : orderCommand c = true) :
    ∃ t, exec c s = .next t ∧ (OrderOutcome s t ∨ ResetDone c s t) := by
  cases c with
  | step => exact serves_step.outcome s fun u o a => actStep_unanswered
  | abort =>
    exact serves_abort.outcome s fun u o a _ => actAbort_unanswered u a
  | extend => exact serves_extend.outcome s fun u o a _ => ⟨⟨rfl, rfl, rfl⟩, fun _ h => (by cases h)⟩
  | relay => exact serves_relay.outcome s fun u o a _ => ⟨⟨rfl, rfl, rfl⟩, fun _ h => (by cases h)⟩
  | line => exact serves_line.outcome s fun u o a _ => ⟨actLines_unanswered u a, fun _ h => (by cases h)⟩
  | laneSet => exact serves_laneSet.outcome s fun u o a _ => ⟨setLane_unanswered u a, fun _ h => (by cases h)⟩
  | instrumentSet =>
    exact serves_instrumentSet.outcome s fun u o a _ => ⟨setInstrument_unanswered u _ _ _, fun _ h => (by cases h)⟩
  | beaconSet =>
    exact serves_beaconSet.outcome s fun u o a _ => ⟨setBeacon_unanswered u _ _ _, fun _ h => (by cases h)⟩
  | loadLimit => exact serves_loadLimit.outcome s fun u o a _ => actLoadLimit_unanswered u a
  | loadGroup => exact serves_loadGroup.outcome s fun u o a _ => actLoadGroup_unanswered u a
  | readLimit => exact serves_readLimit.outcome s fun u o a _ => readTable_unanswered u a _
  | readGroup => exact serves_readGroup.outcome s fun u o a _ => readTable_unanswered u a _
  | readRoster => exact serves_readRoster.outcome s fun u o a _ => readTable_unanswered u a _
  | readBoard => exact serves_readBoard.outcome s fun u o a _ => readTable_unanswered u a _
  | clearVerdict => exact serves_clearVerdict.outcome s fun u o a _ => updLanes_unanswered u a _ fun _ h => (by cases h)
  | unlatch => exact serves_unlatch.outcome s fun u o a _ => updLanes_unanswered u a _ fun _ h => (by cases h)
  | clearFlags => exact serves_clearFlags.outcome s fun u o a _ => updLanes_unanswered u a _ fun _ h => (by cases h)
  | resume => exact serves_resume.outcome s fun u o a _ => ⟨resumeLane_unanswered u a, fun _ h => (by cases h)⟩
  | start => exact serves_start.outcome s fun u o a _ => ⟨startAll_unanswered u, fun _ h => (by cases h)⟩
  | unknownOrderKind => exact serves_unknownOrderKind.outcome s fun u o a h => (by cases h)
  | reset straps => exact reset_outcome straps s
  | _ => cases hc

theorem resetByOrder_urgent (u : State) (straps : BitVec 4) : (u.resetByOrder straps).urgent = [] :=
  (resetByOrder_cleared u straps).queues.2.1

theorem finishOrder_urgent (u : State) (o : Order) (b : AnswerBody) :
    (u.finishOrder o b).urgent = u.urgent ++ [.answer o.number o.kind b] := rfl

/-- The ANSWERs after an order that is acted on. -/
theorem finishOrder_answers {s v : State} {o : Order} {rest : List Order} (h : Unanswered (s.taken o rest) v)
    (b : AnswerBody) :
    (v.finishOrder o b).urgent.filter isAnswer = s.urgent.filter isAnswer ++ [.answer o.number o.kind b] := by
  rw [finishOrder_urgent, List.filter_append, h.answers]
  rfl

/-- Settles O6: of the ways an order ends, only the refusal leaves this ANSWER. -/
theorem refusedOrderChangesNothing : Obligations.RefusedOrderChangesNothing := by
  intro c s t o rest code hc hin hexec hanswer
  obtain ⟨t', hexec', hend⟩ := order_outcome s c hc
  obtain rfl : t' = t := Host.Outcome.next.inj (hexec'.symm.trans hexec)
  rcases hend with (rfl | ⟨o', rest', hin', hcurrent, hend⟩) | ⟨straps, o', rest', u, -, -, -, -, -, rfl⟩
  · simp at hanswer
  · obtain ⟨rfl, rfl⟩ := List.cons.inj (hin'.symm.trans hin)
    rcases hend with ⟨code', rfl⟩ | ⟨v, b, -, hok, rfl⟩
    · simp only [State.finishOrder, State.taken, hcurrent]
    · rw [finishOrder_urgent] at hanswer
      have hlast := (List.append_inj' hanswer rfl).2
      simp only [List.cons.injEq, UrgentReport.answer.injEq, true_and, and_true] at hlast
      exact absurd hlast (hok code)
  · rw [resetByOrder_urgent] at hanswer
    simp at hanswer

/-- Settles O7. -/
theorem everyTakenOrderIsAnsweredOnce : Obligations.EveryTakenOrderIsAnsweredOnce := by
  intro c s t hc hexec
  obtain ⟨t', hexec', hend⟩ := order_outcome s c hc
  obtain rfl : t' = t := Host.Outcome.next.inj (hexec'.symm.trans hexec)
  rcases hend with (rfl | ⟨o, rest, hin, -, hend⟩) | ⟨straps, o, rest, u, rfl, hin, hkind, hbody, -, rfl⟩
  · exact .inl rfl
  · refine .inr (.inl ?_)
    rcases hend with ⟨code, rfl⟩ | ⟨v, b, hv, -, rfl⟩
    · exact ⟨o, rest, .refused code, hin, rfl, rfl, rfl, finishOrder_answers (.refl _) _, by
        rw [finishOrder_urgent, List.getLast?_concat]⟩
    · exact ⟨o, rest, b, hin, hv.ingress, rfl, rfl, finishOrder_answers hv b, by
        rw [finishOrder_urgent, List.getLast?_concat]⟩
  · exact .inr (.inr ⟨straps, o, rest, rfl, hin, hkind, hbody, resetByOrder_urgent u straps⟩)

/-! ### Commands and their queue -/

theorem Machine.RosterFrame.pending_eq {s t : State} (h : RosterFrame s t) : t.pending = s.pending := by rw [h]

theorem receiveFrame_frame (s : State) (i : LaneId) (f : RawFrame) : RosterFrame s (s.receiveFrame i f) := by
  have hlane : ∀ (u : State) (g : Lane → Lane), RosterFrame u (u.updLane i g) := fun _ _ => rfl
  have hswitch : ∀ (u : State) (framing : Framing), RosterFrame u (u.switchMode i framing) := fun u framing => by
    unfold State.switchMode
    dsimp only
    split
    · exact (hlane u _).trans (loaderRestart_frame _ i)
    · exact hlane u _
  have hresend : ∀ (u : State) (g : InFlight) (next : SendPhase), RosterFrame u (u.countResend i g next) :=
    fun u g next => by
      unfold State.countResend
      split
      · exact stall_frame u i
      · exact hlane u _
  have hmark : ∀ (u : State) (seq : Byte) (code : MarkCode), RosterFrame u (u.takeMark i seq code) :=
    fun u seq code => by
      unfold State.takeMark
      split
      · exact .refl u
      · split
        · exact .refl u
        · split
          · exact hlane u _
          · exact hresend u _ _
          · exact (hlane u _).trans (hresend _ _ _)
          · exact .refl u
          · exact .refl u
  have htake : ∀ u : State, RosterFrame u (u.takeFrame i f) := fun u => by
    have h := takeFrame_eq_withLane u i (u.lane i) f
    rw [withLane_eq_of_lane_eq rfl] at h
    rw [h]
    rfl
  have hhandle : ∀ u : State, RosterFrame u (u.handleFrame i f) := fun u => by
    unfold State.handleFrame
    split
    · split
      · exact hlane u _
      · exact hmark u _ _
    · exact htake u
  unfold State.receiveFrame
  split
  · dsimp only
    split
    · split
      · exact (hlane s _).trans (hhandle _)
      · exact (hlane s _).trans ((hswitch _ _).trans (hhandle _))
    · exact (hlane s _).trans ((hlane _ _).trans (hlane _ _))
  · exact .refl s

theorem receiveCharacter_frame (s : State) (i : LaneId) (c : Byte) (low : Bool) :
    RosterFrame s (s.receiveCharacter i c low) := by
  unfold State.receiveCharacter
  split
  · split
    · rfl
    · split
      · dsimp only
        split <;> rfl
      · exact receiveFrame_frame s i _
  · rfl

theorem markWindowOut_frame (s : State) (i : LaneId) : RosterFrame s (s.markWindowOut i) := by
  unfold State.markWindowOut
  split
  · split
    · unfold State.countResend
      split
      · exact stall_frame s i
      · rfl
    all_goals rfl
  · rfl

theorem debounceOut_frame (s : State) (i : LaneId) : RosterFrame s (s.debounceOut i) := by
  have hedge : ∀ (u : State) (level : Bool), RosterFrame u (u.seatEdge i level) := fun u level => by
    unfold State.seatEdge
    split
    · exact seatLane_frame u i
    · exact depart_frame u i .sense
    · exact depart_frame u i .sense
    · exact depart_frame u i .sense
    · exact depart_frame u i .sense
    · rfl
  unfold State.debounceOut
  dsimp only
  split
  · split
    · rfl
    · exact (updLane_frame s i _).trans (hedge _ _)
  · rfl

theorem announceOut_frame (s : State) (i : LaneId) : RosterFrame s (s.announceOut i) := by
  unfold State.announceOut
  split
  · exact RosterFrame.trans (t := (s.updLane i _).setFlag i .mute) (by rfl) (recordEvent_frame _ i .mute).roster
  all_goals rfl

theorem holdOut_frame (s : State) (k : InstrumentId) : RosterFrame s (s.holdOut k) := by
  unfold State.holdOut
  split
  · rename_i i _ _
    unfold State.revokeHold
    exact RosterFrame.trans (t := ((s.updInstrument k _).setFlag i .holdOver).placeControl i .revoke k) (by rfl)
      ((reportInstrument_frame _ k .revoked i 0).trans (chooseNext_frame _ k)).roster
  · rfl

theorem offerBulk_pending (s : State) (r : BulkReport) : (s.offerBulk r).pending = s.pending := by
  rw [offerBulk_eq]

theorem dispatch_pending (s : State) (mine : RxFrame → Bool) {act : LaneId → RxFrame → State → State}
    (h : ∀ i f u, (act i f u).pending = u.pending) : (s.dispatch mine act).pending = s.pending := by
  rcases dispatch_cases s mine act with hd | ⟨i, f, -, -, hd⟩ <;> rw [hd]
  exact h i f _

theorem takeHello_pending (i : LaneId) (f : RxFrame) (u : State) : (takeHello i f u).pending = u.pending := by
  unfold takeHello
  split
  · rfl
  · split
    · rfl
    · unfold State.helloByState
      split
      · split
        · exact (bindOrHold_frame u i _).pending_eq
        · split
          · exact (bindOrHold_frame u i _).pending_eq
          · exact (swap_frame u i _).pending_eq
      · split
        · exact (bindOrHold_frame u i _).pending_eq
        · split
          · exact (bindOrHold_frame u i _).pending_eq
          · exact (swap_frame u i _).pending_eq
      · split
        · exact (bindOrHold_frame u i _).pending_eq
        · split
          · exact (bindOrHold_frame u i _).pending_eq
          · exact (swap_frame u i _).pending_eq
      · split
        · exact (rebind_frame u i).pending_eq
        · exact (swap_frame u i _).pending_eq
      all_goals rfl

theorem takeResult_pending (i : LaneId) (f : RxFrame) (u : State) : (takeResult i f u).pending = u.pending := by
  have hsettle : ∀ (v : State) (r : RecordId) (final : Bool), (v.settleResult i r final).pending = v.pending :=
    fun v r final => by
      unfold State.settleResult
      split
      · exact ((setOutcome_frame v r i _).trans (StepFrame.trans (by rfl) (closingCheck_frame _ r))).roster.pending_eq
      · exact (setOutcome_frame v r i _).roster.pending_eq
  unfold takeResult
  dsimp only
  split
  · unfold State.strayResult State.reportUnjudged
    split <;> exact offerBulk_pending _ _
  · split
    · unfold State.judgeResult State.copyResult
      dsimp only
      rw [hsettle]
      split
      · exact offerBulk_pending _ _
      · rfl
    · exact offerBulk_pending _ _

theorem takeClaim_pending (i : LaneId) (f : RxFrame) (u : State) : (takeClaim i f u).pending = u.pending := by
  unfold takeClaim
  split
  · unfold State.claim State.denyClaim
    dsimp only
    split
    · split <;> rfl
    · split
      · rfl
      · split
        · exact (grant_frame _ _ i).roster.pending_eq
        · rfl
  · rfl

theorem takeRelease_pending (i : LaneId) (f : RxFrame) (u : State) : (takeRelease i f u).pending = u.pending := by
  unfold takeRelease
  split
  · rename_i k _
    unfold State.release
    dsimp only
    split
    · exact ((updInstrument_frame u k _).trans
        ((reportInstrument_frame _ k .released i 0).trans (chooseNext_frame _ k))).roster.pending_eq
    · split <;> rfl
  · rfl

theorem startReport_pending (s : State) : s.startReport.pending = s.pending := by
  unfold State.startReport
  split
  · split
    · rfl
    · split <;> rfl
    · rfl
  · rfl

theorem takeUplinkFrame_pending (s : State) (f : List Byte) : (s.takeUplinkFrame f).pending = s.pending := by
  unfold State.takeUplinkFrame State.offerOrder
  split
  · rfl
  · split
    · split
      · split <;> rfl
      · rfl
    · rfl

/-- Settles O3: an order command by the way its order ends, any other by what it may change at all. -/
theorem everyCommandAnswersAndKeepsTheQueue : Obligations.EveryCommandAnswersAndKeepsTheQueue := by
  intro c s
  have horder (hc : orderCommand c = true) : ∃ t, exec c s = .next t ∧ t.pending = s.pending := by
    obtain ⟨t, hexec, hend⟩ := order_outcome s c hc
    refine ⟨t, hexec, ?_⟩
    rcases hend with h | ⟨straps, o, rest, u, -, -, -, -, hu, rfl⟩
    · exact h.pending
    · exact hu
  have hroster {t : State} (hexec : exec c s = .next t) (h : RosterFrame s t) :
      ∃ t, exec c s = .next t ∧ t.pending = s.pending := ⟨t, hexec, h.pending_eq⟩
  cases c with
  | step | abort | extend | relay | line | laneSet | instrumentSet | beaconSet | loadLimit | loadGroup | readLimit
  | readGroup | readRoster | readBoard | clearVerdict | unlatch | clearFlags | resume | start | reset
  | unknownOrderKind => exact horder rfl
  | laneCharacter j char low => exact hroster rfl (receiveCharacter_frame s j char low)
  | gapTimeout j => exact hroster (exec_gapTimeout_eq j s) (by split <;> rfl)
  | laneFrameReceived j f => exact hroster rfl (receiveFrame_frame s j f)
  | mark j framing seq payload check => exact hroster rfl (receiveFrame_frame s j _)
  | sendMark j => exact hroster rfl (by rfl)
  | sendNewFrame j => exact hroster rfl (by rfl)
  | sendResend j => exact hroster rfl (by rfl)
  | lastByteOut j => exact hroster rfl (by rfl)
  | markWindowExpiry j => exact hroster rfl (markWindowOut_frame s j)
  | retryPauseExpiry j => exact hroster rfl (by rfl)
  | seatChange j level => exact hroster rfl (by rfl)
  | debounceExpiry j => exact hroster rfl (debounceOut_frame s j)
  | announceExpiry j => exact hroster rfl (announceOut_frame s j)
  | keyPulseExpiry j => exact hroster rfl (by rfl)
  | hello => exact ⟨_, rfl, dispatch_pending s _ takeHello_pending⟩
  | result => exact ⟨_, rfl, dispatch_pending s _ takeResult_pending⟩
  | text => exact ⟨_, rfl, dispatch_pending s _ fun i f u => offerBulk_pending u _⟩
  | claim => exact ⟨_, rfl, dispatch_pending s _ takeClaim_pending⟩
  | release => exact ⟨_, rfl, dispatch_pending s _ takeRelease_pending⟩
  | powerOn straps seats => exact ⟨_, rfl, rfl⟩
  | linkUp => exact ⟨_, rfl, rfl⟩
  | linkDown => exact ⟨_, rfl, rfl⟩
  | uplinkFrame f rxError =>
    refine ⟨_, rfl, ?_⟩
    split
    · split
      · rfl
      · exact takeUplinkFrame_pending s f
    · rfl
  | pause f rxError =>
    refine ⟨_, rfl, ?_⟩
    split
    · split
      · rfl
      · split <;> rfl
    · rfl
  | bulkHoldExpiry => exact ⟨_, rfl, by unfold State.bulkHoldOut; split <;> rfl⟩
  | reportFrameStart => exact ⟨_, rfl, startReport_pending s⟩
  | summaryEnqueue => exact hroster rfl (enterSummary_frame s).roster
  | holdExpiry k => exact hroster rfl (holdOut_frame s k)
  | deadlineExpiry r =>
    refine hroster (t := s.deadlineOut r) rfl ?_
    unfold State.deadlineOut
    split
    · exact (endStep_frame s r .expired .deadline).roster
    · rfl
  | intervalExpiry => exact ⟨_, exec_intervalExpiry_eq s, by split <;> rfl⟩
  | spacingExpiry =>
    refine ⟨_, exec_spacingExpiry_eq s, ?_⟩
    unfold State.spacingOut
    split
    · dsimp only
      split <;> rfl
    · rfl
  | beaconEntry => exact ⟨_, rfl, (enterBeacon_unanswered s).pending⟩

end Sys2Proof
end

section
/-! PROOFS of the statements about reset, about unknown and truncated orders, and about STEPs and deadlines. -/

namespace Sys2Proof

open Sys2Proof.Machine

/-! ### Reset (R177, R178) -/

/-- The state with every block at its reset values, but for what stands outside the part and the lanes. -/
theorem resetValues_of {t : State} {straps : BitVec 4} {raw : LaneId → Bool} (hcleared : Cleared t)
    (hframe : t =
      { State.reset with
        station := straps, lanes := t.lanes, linkUp := t.linkUp, uplinkLine := t.uplinkLine, choices := t.choices
        pending := t.pending })
    (hlane : ∀ i, ∃ line, t.lane i = Lane.afterReset (raw i) line) : ResetValues straps raw t := by
  have hgroups : t.groups = State.reset.groups := by rw [hframe]
  have hlimits : t.limits = State.reset.limits := by rw [hframe]
  have hholding : t.holding = State.reset.holding := by rw [hframe]
  refine
    { orderUnit := ⟨hcleared.flags.1, by rw [hframe]; rfl⟩
      engines := fun i => ?_
      settings := fun i => ?_
      lines := fun i => ?_
      seatSense := fun i => ?_
      roster := fun i => ?_
      dispatcher := by rw [hframe]; rfl
      stepUnit := ⟨fun r => by rw [hcleared.records]; exact ⟨rfl, rfl, rfl⟩, hcleared.lists.1, hcleared.lists.2,
        fun g => ?_, fun i => ?_⟩
      judge := fun k => ?_
      board := fun i => ?_
      arbiter := fun k => hcleared.instruments k
      uplink := ⟨hcleared.queues.1, hcleared.queues.2.1, hcleared.queues.2.2.2, hcleared.queues.2.2.1,
        by rw [hframe]; rfl, by rw [hframe]; rfl, hcleared.drops.1, hcleared.drops.2.1, hcleared.drops.2.2.1,
        hcleared.drops.2.2.2, by rw [hframe]⟩
      beacon := ⟨hcleared.flags.2, fun i => ?_, by rw [hframe]; rfl, by rw [hframe]; rfl, by rw [hframe]; rfl,
        by rw [hframe]; rfl, by rw [hframe]; rfl, by rw [hframe]; rfl, by rw [hframe]; rfl⟩ }
  · obtain ⟨line, h⟩ := hlane i
    rw [h]
    exact ⟨rfl, rfl, rfl, rfl, rfl, rfl, rfl, rfl, rfl, rfl, rfl, rfl, rfl, rfl⟩
  · obtain ⟨line, h⟩ := hlane i
    rw [h]
    rfl
  · obtain ⟨line, h⟩ := hlane i
    rw [h]
    exact ⟨rfl, rfl, rfl⟩
  · obtain ⟨line, h⟩ := hlane i
    rw [h]
    exact ⟨rfl, rfl, rfl⟩
  · obtain ⟨line, h⟩ := hlane i
    rw [h]
    exact ⟨rfl, rfl, rfl, rfl⟩
  · rw [hgroups]
    simp [State.reset]
  · obtain ⟨line, h⟩ := hlane i
    rw [h]
    rfl
  · rw [hlimits]
    simp [State.reset, LimitEntry.reset]
  · obtain ⟨line, h⟩ := hlane i
    rw [h]
    rfl
  · rw [hholding]
    simp [State.reset]

theorem exec_powerOn_eq : ∀ (straps : BitVec 4) (seats : LaneSet) (s : State),
    exec (.powerOn straps seats) s = .next (s.poweredOn straps seats) := by intros; rfl

theorem execReset_of_ready {s : State} {straps : BitVec 4} {o : Order} {rest : List Order}
    (hready : OrderReady s o rest) (hkind : o.kind = 0x10#8) : exec (.reset straps) s = .next
      (if o.body = [] then (s.taken o rest).resetByOrder straps else s.answered o rest (.refused .badOrder)) := by
  have htake := takeOrder_of_ready (mine := fun o => o.isKind .reset) hready (isKind_of_kind (k := .reset) hkind)
  obtain ⟨-, hlen, hcurrent, hreserved, -⟩ := hready
  have hwhole : o.truncated = false := by simp [Order.truncated, hlen]
  rw [exec_reset_eq, execReset, htake]
  by_cases hbody : o.body = []
  · simp only [checked, hwhole, hbody, parseEmpty, if_true, Bool.false_eq_true, if_false, List.length_nil, ne_eq,
      not_true_eq_false]
    rfl
  · have hlen0 : o.body.length ≠ 0 := fun h => hbody (List.eq_nil_of_length_eq_zero h)
    simp only [checked, hwhole, hbody, parseEmpty, Bool.false_eq_true, if_false, hlen0, ne_eq, not_false_eq_true,
      if_true]
    simp only [State.finishOrder, State.answered, hcurrent, hreserved]

/-- Settles O4, by the lanes and the frame of either reset. -/
theorem powerOnAndResetLeaveOneState : Obligations.PowerOnAndResetLeaveOneState := by
  refine ⟨fun straps seats s => ⟨_, exec_powerOn_eq straps seats s, resetValues_of (poweredOn_cleared s straps seats)
    ?_ fun i => ⟨_, poweredOn_lane s straps seats i⟩, ?_⟩, fun straps s o rest hready hkind => ⟨fun hbody =>
      ⟨_, ?_, resetValues_of (resetByOrder_cleared (s.taken o rest) straps) ?_ fun i =>
        ⟨_, resetByOrder_lane (s.taken o rest) straps i⟩, ?_, ?_⟩,
      fun hbody => ?_⟩⟩
  · simp only [State.poweredOn]
  · simp only [State.poweredOn, State.reset]
  · rw [execReset_of_ready hready hkind, if_pos hbody]
  · simp only [State.resetByOrder]
  · simp only [State.resetByOrder, State.taken]
  · simp only [State.resetByOrder, State.taken]
  · rw [execReset_of_ready hready hkind, if_neg hbody]

theorem Cleared.lawful {t : State} (h : Cleared t) : Lawful t :=
  ⟨h.capacity, h.identityLaw, h.enginesLaw.1, h.enginesLaw.2.1, h.enginesLaw.2.2, h.agreed.1, h.agreed.2⟩

/-- Settles O5: the reset state is one that power-on leaves, as far as the laws see it. -/
theorem resetStateIsLawful : Obligations.ResetStateIsLawful := by
  have hlane : ∀ i, State.reset.lane i = Lane.afterReset false [] := fun i => by
    simp only [State.lane, State.reset, Fin.getElem_fin, Vector.getElem_replicate]
    rfl
  have hcleared : Cleared State.reset :=
    ⟨⟨rfl, rfl, rfl, rfl⟩, ⟨rfl, rfl, rfl, rfl⟩, ⟨rfl, rfl⟩, reset_record, ⟨rfl, rfl⟩, reset_instrument,
      fun i => ⟨_, _, hlane i⟩⟩
  exact hcleared.lawful

/-! ### Unknown and truncated orders (R172) -/

section

variable {s : State} {o : Order} {rest : List Order}

/-- The order unit can take the head of the ingress queue, whatever that holds. -/
def CanTake (s : State) (o : Order) (rest : List Order) : Prop :=
  s.ingress = o :: rest ∧ s.currentOrder = none ∧ s.answerReserved = false ∧ s.urgent.length < 32

theorem CanTake.takeOrder (h : CanTake s o rest) {mine : Order → Bool} (hm : mine o = true) :
    s.takeOrder mine = some (o, s.taken o rest) := by
  obtain ⟨hin, hcurrent, hreserved, hroom⟩ := h
  simp [State.takeOrder, hin, hcurrent, hreserved, State.urgentFull, Config.urgentSize, hm, Nat.not_le.2 hroom,
    State.taken]

theorem CanTake.refused (h : CanTake s o rest) (code : RefusalCode) :
    (s.taken o rest).finishOrder o (.refused code) = s.answered o rest (.refused code) := by
  obtain ⟨-, hcurrent, hreserved, -⟩ := h
  simp only [State.finishOrder, State.answered, State.taken, hcurrent, hreserved]

theorem Serves.badOrder {α : Type} {c : Instr} {mine : Order → Bool} {check : State → Order → Except RefusalCode α}
    {act : α → State → State × AnswerBody} (h : Serves c mine check act) (htake : CanTake s o rest)
    (hm : mine o = true) (hbad : o.truncated = true ∨ ∀ u, check u o = .error .badOrder) :
    exec c s = .next (s.answered o rest (.refused .badOrder)) := by
  have hchecked : checked check (s.taken o rest) o = .error .badOrder := by
    unfold checked
    split
    · rfl
    · rename_i hwhole
      exact (hbad.resolve_left hwhole) _
  rw [h, State.serve, htake.takeOrder hm]
  simp only [hchecked, htake.refused]

theorem isKind_of_toNat (k : OrderKind) (h : o.kind.toNat = k.code.toNat) : o.isKind k = true :=
  isKind_of_kind (BitVec.eq_of_toNat_eq h)

theorem names_eq_true_iff (t : Table) : o.names t = true ↔ o.body.head? = some t.code := by
  unfold Order.names byteAt
  cases o.body <;> simp

theorem names_eq_false_iff (t : Table) : o.names t = false ↔ o.body.head? ≠ some t.code := by
  rw [← Bool.not_eq_true, names_eq_true_iff]

theorem reset_truncated {straps : BitVec 4} (htake : CanTake s o rest) (hm : o.isKind .reset = true)
    (ht : o.truncated = true) : exec (.reset straps) s = .next (s.answered o rest (.refused .badOrder)) := by
  rw [exec_reset_eq, execReset, htake.takeOrder hm]
  simp only [checked, ht, if_true, htake.refused]

end

/-- Settles O8: the command that takes an order fails its first check, kind by kind. -/
theorem unknownOrTruncatedOrderIsBadOrder : Obligations.UnknownOrTruncatedOrderIsBadOrder := by
  intro straps s o rest hin hcurrent hreserved hroom hbad
  have htake : CanTake s o rest := ⟨hin, hcurrent, hreserved, hroom⟩
  have hshort (hlow : 1 ≤ o.kind.toNat) (hhigh : o.kind.toNat ≤ 16) : o.truncated = true :=
    decide_eq_true ((hbad.resolve_left (by omega)).resolve_left (by omega))
  unfold commandFor
  split
  case h_17 =>
    have hunknown : o.known = false := by
      simp only [imp_false] at *
      simp only [Order.known, Bool.and_eq_false_iff, decide_eq_false_iff_not]
      omega
    exact serves_unknownOrderKind.badOrder htake (by simp [hunknown]) (.inr fun _ => rfl)
  all_goals rename_i hkind
  all_goals have ht := hshort (by omega) (by omega)
  · exact serves_step.badOrder htake (isKind_of_toNat .step hkind) (.inl ht)
  · exact serves_abort.badOrder htake (isKind_of_toNat .abort hkind) (.inl ht)
  · exact serves_extend.badOrder htake (isKind_of_toNat .extend hkind) (.inl ht)
  · exact serves_relay.badOrder htake (isKind_of_toNat .relay hkind) (.inl ht)
  · exact serves_line.badOrder htake (isKind_of_toNat .line hkind) (.inl ht)
  · exact serves_laneSet.badOrder htake (isKind_of_toNat .laneSet hkind) (.inl ht)
  · exact serves_instrumentSet.badOrder htake (isKind_of_toNat .instrumentSet hkind) (.inl ht)
  · exact serves_beaconSet.badOrder htake (isKind_of_toNat .beaconSet hkind) (.inl ht)
  · have hload := isKind_of_toNat .load hkind
    split
    · exact serves_loadGroup.badOrder htake (by simp [hload, (names_eq_true_iff .group).2 ‹_›]) (.inl ht)
    · exact serves_loadLimit.badOrder htake (by simp [hload, (names_eq_false_iff .group).2 ‹_›]) (.inl ht)
  · have hread := isKind_of_toNat .read hkind
    split
    · exact serves_readGroup.badOrder htake (by simp [hread, (names_eq_true_iff .group).2 ‹_›]) (.inl ht)
    · rename_i hgroup
      split
      · exact serves_readRoster.badOrder htake (by simp [hread, (names_eq_true_iff .roster).2 ‹_›]) (.inl ht)
      · rename_i hroster
        split
        · exact serves_readBoard.badOrder htake (by simp [hread, (names_eq_true_iff .board).2 ‹_›]) (.inl ht)
        · rename_i hboard
          exact serves_readLimit.badOrder htake (by simp [hread, (names_eq_false_iff .group).2 hgroup,
            (names_eq_false_iff .roster).2 hroster, (names_eq_false_iff .board).2 hboard]) (.inl ht)
  · exact serves_clearVerdict.badOrder htake (isKind_of_toNat .clearVerdict hkind) (.inl ht)
  · exact serves_unlatch.badOrder htake (isKind_of_toNat .unlatch hkind) (.inl ht)
  · exact serves_clearFlags.badOrder htake (isKind_of_toNat .clearFlags hkind) (.inl ht)
  · exact serves_resume.badOrder htake (isKind_of_toNat .resume hkind) (.inl ht)
  · exact serves_start.badOrder htake (isKind_of_toNat .start hkind) (.inl ht)
  · exact reset_truncated htake (isKind_of_toNat .reset hkind) ht

/-! ### Deadlines and EXTEND (R62, R63, R66) -/

theorem exec_deadlineExpiry_eq : ∀ (r : RecordId) (s : State),
    exec (.deadlineExpiry r) s = .next (s.deadlineOut r) := by intros; rfl

theorem deadlineOut_of_ne {s : State} {r : RecordId} (h : (s.record r).deadline ≠ some 0) : s.deadlineOut r = s :=
  if_neg fun hc => h hc.2

/-- Settles O13: the expiry ends the step as `endStep_stepEnded` says. -/
theorem deadlineExpiryEndsOpenStep : Obligations.DeadlineExpiryEndsOpenStep := by
  intro s r id hopen hid hout
  have hend : s.deadlineOut r = s.endStep r .expired .deadline := if_pos ⟨hopen, hout⟩
  exact ⟨_, (exec_deadlineExpiry_eq r s).trans (congrArg _ hend), endStep_frame s r .expired .deadline,
    endStep_stepEnded hopen hid .expired .deadline⟩

theorem parseExtend_body (id count : Half) : parseExtend (le16 id ++ le16 count) =
    if id = 0#16 then .error .badValue else .ok (id, max 1 count.toNat) := by
  have hid : halfAt (le16 id ++ le16 count) 0 = id := half_le16 id
  have hcount : halfAt (le16 id ++ le16 count) 2 = count := half_le16 count
  have hlen : (le16 id ++ le16 count).length = 4 := rfl
  simp only [parseExtend, hlen, hid, hcount, clamp_half, ne_eq, not_true_eq_false, if_false]

/-- Settles O14: the refusals are those of `checkExtend`, and a reloaded deadline has time left. -/
theorem extendReloadsDeadline : Obligations.ExtendReloadsDeadline := by
  intro s o rest hready hkind
  have hmine : o.isKind .extend = true := isKind_of_kind hkind
  refine ⟨fun hlen => ?_, fun id count hbody => ⟨fun hzero => ?_, fun hid hnone => ?_,
    fun r hid hopen hcarries honly => ?_⟩⟩
  · exact serves_extend.refused hready hmine (by simp [checkExtend, parseExtend, hlen])
  · exact serves_extend.refused hready hmine (by rw [checkExtend, hbody, parseExtend_body, if_pos hzero])
  · have hopen : (s.taken o rest).openRecord id = none := openRecord_eq_none hnone
    exact serves_extend.refused hready hmine
      (by rw [checkExtend, hbody, parseExtend_body, if_neg hid]; simp only [hopen])
  · have hfind : (s.taken o rest).openRecord id = some r := openRecord_eq_some hopen hcarries honly
    have hcheck : checkExtend (s.taken o rest) o = .ok (r, max 1 count.toNat) := by
      rw [checkExtend, hbody, parseExtend_body, if_neg hid]
      simp only [hfind]
    refine ⟨_, serves_extend.finished hready hmine hcheck rfl rfl, ?_, ?_⟩
    · obtain ⟨-, -, hcurrent, hreserved, -⟩ := hready
      simp only [State.finished, State.updRecord, State.taken, State.answered, hcurrent, hreserved]
      rfl
    · rw [exec_deadlineExpiry_eq, deadlineOut_of_ne]
      show (((s.taken o rest).updRecord r fun n => { n with deadline := some (max 1 count.toNat) }).record r).deadline
        ≠ _
      rw [State.record_updRecord_self]
      simp only [ne_eq, Option.some.injEq]
      omega

/-! ### STEPs (R54 to R56) -/

theorem parseStep_of_length_ne {b : List Byte} (h : b.length ≠ 13 + (byteAt b 12).toNat) :
    parseStep b = .error .badOrder := if_pos (.inr h)

theorem parseStep_of_bad_value {b : List Byte} (hlen : b.length = 13 + (byteAt b 12).toNat)
    (h : halfAt b 0 = 0#16 ∨ 1 < (byteAt b 2).toNat ∨ 63 < (byteAt b 8).toNat
      ∨ (byteAt b 2 = 0x01#8 ∧ 31 < (byteAt b 3).toNat) ∨ 1 < (byteAt b 5).toNat ∨ 200 < (byteAt b 12).toNat) :
    parseStep b = .error .badValue := by
  have hshape : ¬(b.length < 13 ∨ b.length ≠ 13 + (byteAt b 12).toNat) := by omega
  exact (if_neg hshape).trans (if_pos h)

/-- Settles O11, check by check. -/
theorem stepRefusalsFollowTheirOrder : Obligations.StepRefusalsFollowTheirOrder := by
  intro s o rest hready hkind
  have hmine : o.isKind .step = true := isKind_of_kind hkind
  have hcheck {c : RefusalCode} (hstart : s.startup = false) (hparse : parseStep o.body = .error c) :
      checkStep (s.taken o rest) o = .error c := by
    have : (s.taken o rest).startup = false := hstart
    simp [checkStep, notInStartup, this, hparse]
  refine ⟨fun hstart => ?_, fun hstart hlen => ?_, fun hstart hlen hbad => ?_, ?_⟩
  · exact serves_step.refused hready hmine (if_pos hstart)
  · exact serves_step.refused hready hmine (hcheck hstart (parseStep_of_length_ne hlen))
  · exact serves_step.refused hready hmine (hcheck hstart (parseStep_of_bad_value hlen hbad))
  · intro id target reserved stream deadline limitGroup stat tag command hbody hstart hid hgroup hcommand htarget
    have hparse : parseStep o.body = .ok (stepArgs id target stream deadline limitGroup stat tag command) := by
      rw [hbody, parseStep_stepBody reserved deadline stat tag hid hgroup hcommand htarget]
    have hstart' : (s.taken o rest).startup = false := hstart
    have hid' : (stepArgs id target stream deadline limitGroup stat tag command).stepId = id := rfl
    refine ⟨fun ⟨r, hused, hcarries⟩ => ?_, fun hnew hfull => ?_⟩
    · have huse : (s.taken o rest).idInUse id = true := by
        rw [State.idInUse, List.any_eq_true]
        exact ⟨r, List.mem_finRange r, decide_eq_true ⟨hused, hcarries⟩⟩
      exact serves_step.refused hready hmine (by simp [checkStep, notInStartup, hstart', hparse, hid', huse])
    · have huse : (s.taken o rest).idInUse id = false := idInUse_eq_false hnew
      have hfull' : (s.taken o rest).freeOrder = [] := hfull
      exact serves_step.refused hready hmine (by simp [checkStep, notInStartup, hstart', hparse, hid', huse, hfull'])

/-- A PENDING member owes an answer, so its step stays open. -/
theorem openedRecord_owing_ne_nil {s : State} {members : LaneSet} {id : Half} {stream : Bool} {deadline : Half}
    {limitGroup : Byte} {stat : Half} {tag : Byte} {command : List Byte} (h : s.takenAs members .pending ≠ 0#16) :
    (s.openedRecord members id stream deadline limitGroup stat tag command).owing ≠ [] := by
  rw [State.takenAs, ne_eq, laneSetOf_eq_zero_iff, not_forall] at h
  obtain ⟨i, hi⟩ := h
  rw [Bool.not_eq_false, Bool.and_eq_true, beq_iff_eq] at hi
  obtain ⟨hin, hpending⟩ := hi
  rw [ne_eq, owing_eq_nil_iff, not_forall]
  refine ⟨i, ?_⟩
  simp [owes_eq_any, State.openedRecord, hin, hpending, MemberOutcome.owing]

theorem takeStepInto_frame (s : State) (r : RecordId) (a : StepArgs) : s.takeStepInto r a =
    { s with
      lanes := (s.takeStepInto r a).lanes, records := (s.takeStepInto r a).records
      freeOrder := s.freeOrder.tail } := by
  have hframe := (takeStepInto_laneMember s r a).1.state
  rwa [openStep_frame] at hframe

/-- Settles O9: the order passes `checkStep`, and the take's lemmas give record and lanes; the closing check finds the
step still owed. -/
theorem stepGivesEachMemberItsOutcome : Obligations.StepGivesEachMemberItsOutcome := by
  intro s o rest r free id target reserved stream deadline limitGroup stat tag command hready hkind hbody hstart hid
    hgroup hcommand htarget hlaw hnew hfree hpending
  have hmine : o.isKind .step = true := isKind_of_kind hkind
  have hparse : parseStep o.body = .ok (stepArgs id target stream deadline limitGroup stat tag command) := by
    rw [hbody, parseStep_stepBody reserved deadline stat tag hid hgroup hcommand htarget]
  have hcap : ∀ i, (s.lane i).takeOutcome = outcomeAtTake (s.lane i) := takeOutcome_eq_outcomeAtTake hlaw.capacity
  have hcheck := checkStep_eq_ok (s := s.taken o rest) hstart hparse hnew (by simp [State.taken, hfree])
  have hrecord := takeStepInto_openedRecord (s.taken o rest) id stream deadline limitGroup stat tag command r hcap
    htarget
  have hact := actStep_of_cons (s := s.taken o rest) (r := r) (free := free) hfree
    (stepArgs id target stream deadline limitGroup stat tag command)
  have hopen : ((s.taken o rest).takeStepInto r
      (stepArgs id target stream deadline limitGroup stat tag command)).closingCheck r = _ := if_neg fun hclose =>
    openedRecord_owing_ne_nil hpending (by rw [hrecord] at hclose; exact hclose.2)
  have hlane := takeStepInto_lane (s.taken o rest) r (stepArgs id target stream deadline limitGroup stat tag command)
  have hother {q : RecordId} (hq : q ≠ r) := takeStepInto_record_of_ne (s.taken o rest)
    (stepArgs id target stream deadline limitGroup stat tag command) hq
  have hframe := takeStepInto_frame (s.taken o rest) r (stepArgs id target stream deadline limitGroup stat tag command)
  rw [hopen, hrecord, openedRecord_isMember, openedRecord_withOutcome, openedRecord_withOutcome,
    openedRecord_withOutcome] at hact
  have hstep := takeStepInto_stepFrame (s.taken o rest) r
    (stepArgs id target stream deadline limitGroup stat tag command)
  generalize (s.taken o rest).takeStepInto r (stepArgs id target stream deadline limitGroup stat tag command) = u at *
  rw [exec_step_eq, execStep, serve_ok_of_stepFrame hready hmine hcheck hact hstep]
  have hfreeOrder : u.freeOrder = free := by rw [hframe, State.taken, hfree]; rfl
  have hclosing : u.closing = s.closing := by rw [hframe, State.taken]
  have hbulk : u.bulk = s.bulk := by rw [hframe, State.taken]
  refine ⟨_, rfl, ?_, hrecord, fun q hq => (hother hq).trans rfl, fun i => (hlane i).trans ?_⟩
  · simp only [hfreeOrder, hclosing, hbulk, State.answered]
    rfl
  · have hmembers := targetMembers_eq_membersOf (s.taken o rest) (target := target) htarget
    refine if_congr (and_congr (iff_of_eq ?_) (iff_of_eq ?_)) rfl rfl
    · exact congrArg (fun w => inSet w i = true) hmembers
    · exact congrArg (· = MemberOutcome.pending) (hcap i)

end Sys2Proof
end

section
/-! PROOFS of the statements about the orders on lanes and lines: RELAY, LINE and LANE-SET. -/

namespace Sys2Proof

open Sys2Proof.Machine

/-! ### Fields of an order body -/

theorem laneOfByte_eq_none_iff (b : Byte) : laneOfByte b = none ↔ b.toNat < 1 ∨ 16 < b.toNat := by
  unfold laneOfByte
  split
  · simp only [reduceCtorEq, false_iff]; omega
  · simp only [true_iff]; omega

@[simp] theorem laneOfByte_laneByte (i : LaneId) : laneOfByte (laneByte i) = some i := by
  have hval : (laneByte i).toNat = i.val + 1 := byteOf_toNat (by omega)
  have hrange : 1 ≤ (laneByte i).toNat ∧ (laneByte i).toNat ≤ 16 := by omega
  rw [laneOfByte, dif_pos hrange]
  simp [hval]

theorem levelOfByte_eq_none_iff (b : Byte) : levelOfByte b = none ↔ 1 < b.toNat := by
  unfold levelOfByte
  split_ifs with h0 h1
  · simp [h0]
  · simp [h1]
  · simp only [true_iff]; bv_omega

theorem levelOfByte_of_le {b : Byte} (h : b.toNat ≤ 1) : levelOfByte b = some (b == 0x01#8) := by
  have hb : b = 0x00#8 ∨ b = 0x01#8 := by bv_omega
  obtain rfl | rfl := hb <;> rfl

theorem powerActionOf_eq_none_iff (b : Byte) : powerActionOf b = none ↔ 2 < b.toNat := by
  unfold powerActionOf
  split_ifs with h0 h1 h2
  · simp [h0]
  · simp [h1]
  · simp [h2]
  · simp only [true_iff]; bv_omega

theorem settingOfByte_eq_none_iff (b : Byte) : settingOfByte b = none ↔ b ≠ 0xFF#8 ∧ 1 < b.toNat := by
  unfold settingOfByte
  split_ifs with h
  · simp [h]
  · simp [h, levelOfByte_eq_none_iff]

/-- What an on or off field says: FFh leaves the setting (R202). -/
def settingSaid (b : Byte) : Option Bool := if b = 0xFF#8 then none else some (b == 0x01#8)

theorem settingOfByte_of_valid {b : Byte} (h : b = 0xFF#8 ∨ b.toNat ≤ 1) :
    settingOfByte b = some (settingSaid b) := by
  unfold settingOfByte settingSaid
  split_ifs with hb
  · rfl
  · rw [levelOfByte_of_le (h.resolve_left hb)]; rfl

theorem settingSaid_getD (b : Byte) (old : Bool) : (settingSaid b).getD old = onOff b old := by
  unfold settingSaid onOff
  split_ifs <;> rfl

theorem rateOfByte_eq_none_iff (b : Byte) : rateOfByte b = none ↔ b ≠ 0xFF#8 ∧ 2 < b.toNat := by
  unfold rateOfByte
  split_ifs with h h0 h1 h2
  · simp [h]
  · simp [h0]
  · simp [h1]
  · simp [h2]
  · simp only [ne_eq, h, not_false_eq_true, true_and, true_iff]; bv_omega

/-- What a rate field says: FFh leaves the rate (R202). -/
def rateSaid (b : Byte) : Option Rate := if b = 0xFF#8 then none else some (rateOver b .baud115200)

theorem rateOfByte_of_valid {b : Byte} (h : b = 0xFF#8 ∨ b.toNat ≤ 2) : rateOfByte b = some (rateSaid b) := by
  have hb : b = 0xFF#8 ∨ b = 0x00#8 ∨ b = 0x01#8 ∨ b = 0x02#8 := by bv_omega
  obtain rfl | rfl | rfl | rfl := hb <;> rfl

theorem rateSaid_getD {b : Byte} (h : b = 0xFF#8 ∨ b.toNat ≤ 2) (old : Rate) :
    (rateSaid b).getD old = rateOver b old := by
  have hb : b = 0xFF#8 ∨ b = 0x00#8 ∨ b = 0x01#8 ∨ b = 0x02#8 := by bv_omega
  obtain rfl | rfl | rfl | rfl := hb <;> rfl

theorem clamp_eq {lo hi : Nat} (h : lo ≤ hi) (n : Nat) : clamp lo hi n = min hi (max lo n) := by
  unfold clamp
  split_ifs <;> omega

theorem timingOf_getD {lo hi : Nat} (h : lo ≤ hi) (w : Half) (old : Nat) :
    (timingOf lo hi w).getD old = timing lo hi w old := by
  unfold timingOf timing
  split_ifs
  · rfl
  · rw [clamp_eq h]; rfl

theorem retryLimitOf_getD (b : Byte) (old : Nat) :
    (retryLimitOf b).getD old = if b = 0xFF#8 then old else min 15 b.toNat := by
  unfold retryLimitOf
  split_ifs
  · rfl
  · rw [clamp_eq (by decide)]; simp

/-! ### RELAY (R184) -/

theorem parseRelay_of_length_ne {b : List Byte} (h : b.length ≠ 2 + (byteAt b 1).toNat) :
    parseRelay b = .error .badOrder := if_pos (.inr h)

theorem parseRelay_of_bad_value {b : List Byte} (hlen : b.length = 2 + (byteAt b 1).toNat)
    (h : (byteAt b 0).toNat < 1 ∨ 16 < (byteAt b 0).toNat ∨ 240 < (byteAt b 1).toNat) :
    parseRelay b = .error .badValue := by
  have hshape : ¬(b.length < 2 ∨ b.length ≠ 2 + (byteAt b 1).toNat) := by omega
  refine (if_neg hshape).trans ?_
  by_cases hlong : 240 < (byteAt b 1).toNat
  · exact if_pos hlong
  · refine (if_neg hlong).trans ?_
    rw [(laneOfByte_eq_none_iff _).2 (by omega)]

theorem parseRelay_body (i : LaneId) {payload : List Byte} (h : payload.length ≤ 240) :
    parseRelay (laneByte i :: byteOf payload.length :: payload) = .ok (i, payload) := by
  have hcount : (byteAt (laneByte i :: byteOf payload.length :: payload) 1).toNat = payload.length :=
    byteOf_toNat (n := payload.length) (by omega)
  refine (if_neg ?_).trans ((if_neg ?_).trans ?_)
  · rw [hcount]; simp; omega
  · rw [hcount]; exact Nat.not_lt.2 h
  · show (match laneOfByte (laneByte i) with | none => _ | some i => _) = _
    rw [laneOfByte_laneByte]; rfl

theorem checkRelay_of_error {s : State} {o : Order} (rest : List Order) {c : RefusalCode} (hstart : s.startup = false)
    (h : parseRelay o.body = .error c) : checkRelay (s.taken o rest) o = .error c := by
  have : (s.taken o rest).startup = false := hstart
  rw [checkRelay, notInStartup, this, h]; rfl

theorem checkRelay_of_ok {s : State} {o : Order} (rest : List Order) {i : LaneId} {payload : List Byte}
    (hstart : s.startup = false) (h : parseRelay o.body = .ok (i, payload)) :
    checkRelay (s.taken o rest) o =
      if (s.lane i).state.servesOwn = false then .error .laneState
      else if 8 ≤ (s.lane i).txQueue.length then .error .queueFull
      else .ok (i, payload) := by
  have : (s.taken o rest).startup = false := hstart
  rw [checkRelay, notInStartup, this, h]; rfl

theorem servesOwn_eq_false_iff (st : LaneState) :
    st.servesOwn = false ↔ ¬(st = .seated ∨ st = .bound ∨ st = .held) := by
  cases st <;> simp [LaneState.servesOwn]

/-- Settles O15, check by check. -/
theorem relayAppendsPassOn : Obligations.RelayAppendsPassOn := by
  intro s o rest hready hkind
  have hmine : o.isKind .relay = true := isKind_of_kind hkind
  refine ⟨fun hstart => ?_, fun hstart hlen => ?_, fun hstart hlen hbad => ?_, fun i payload hstart hlong hbody => ?_⟩
  · exact serves_relay.refused hready hmine (if_pos hstart)
  · exact serves_relay.refused hready hmine (checkRelay_of_error rest hstart (parseRelay_of_length_ne hlen))
  · exact serves_relay.refused hready hmine (checkRelay_of_error rest hstart (parseRelay_of_bad_value hlen hbad))
  · have hcheck := checkRelay_of_ok rest hstart ((congrArg parseRelay hbody).trans (parseRelay_body i hlong))
    refine ⟨fun h1 h2 h3 => ?_, fun hserves => ?_⟩
    · have hno := (servesOwn_eq_false_iff (s.lane i).state).2 (by simp [h1, h2, h3])
      exact serves_relay.refused hready hmine (hcheck.trans (if_pos hno))
    · rw [if_neg (mt (servesOwn_eq_false_iff (s.lane i).state).1 (not_not.2 hserves))] at hcheck
      refine ⟨fun hfull => ?_, fun hroom => ?_⟩
      · exact serves_relay.refused hready hmine (hcheck.trans (if_pos hfull))
      · exact serves_relay.withLane hready hmine (hcheck.trans (if_neg (Nat.not_le.2 hroom))) rfl

/-! ### LINE (R131 to R137) -/

theorem parseLine_of_length_ne {b : List Byte} (h : b.length ≠ 5) : parseLine b = .error .badOrder := if_pos h

theorem parseLine_of_bad_value {b : List Byte} (hlen : b.length = 5)
    (h : (byteAt b 0).toNat < 1 ∨ 16 < (byteAt b 0).toNat ∨ 2 < (byteAt b 1).toNat ∨ 1 < (byteAt b 2).toNat) :
    parseLine b = .error .badValue := by
  rw [parseLine, if_neg (not_not.2 hlen)]
  split
  · rename_i hi hpower hkey
    have h1 := mt (laneOfByte_eq_none_iff (byteAt b 0)).2 (by simp [hi])
    have h2 := mt (powerActionOf_eq_none_iff (byteAt b 1)).2 (by simp [hpower])
    have h3 := mt (levelOfByte_eq_none_iff (byteAt b 2)).2 (by simp [hkey])
    omega
  · rfl

/-- What a POWER action byte says: 00h leaves POWER (R137). -/
def powerSaid (b : Byte) : Option Bool := if b = 0x00#8 then none else some (b == 0x01#8)

theorem powerActionOf_of_le {b : Byte} (h : b.toNat ≤ 2) : powerActionOf b = some (powerSaid b) := by
  have hb : b = 0x00#8 ∨ b = 0x01#8 ∨ b = 0x02#8 := by bv_omega
  obtain rfl | rfl | rfl := hb <;> rfl

/-- The fields of a LINE body. -/
def lineArgs (i : LaneId) (power key : Byte) (duration : Half) : LineArgs :=
  { lane := i, power := powerSaid power, pulse := if key = 0x00#8 then none else some duration.toNat }

theorem parseLine_body (i : LaneId) {power key : Byte} (duration : Half) (hpower : power.toNat ≤ 2)
    (hkey : key.toNat ≤ 1) :
    parseLine (laneByte i :: power :: key :: le16 duration) = .ok (lineArgs i power key duration) := by
  have hkeys : key = 0x00#8 ∨ key = 0x01#8 := by bv_omega
  rw [parseLine, if_neg (by simp [le16])]
  show (match laneOfByte (laneByte i), powerActionOf power, levelOfByte key with
    | some i, some power, some key => _ | _, _, _ => _) = _
  rw [laneOfByte_laneByte, powerActionOf_of_le hpower, levelOfByte_of_le hkey]
  obtain rfl | rfl := hkeys
  · rfl
  · show Except.ok (LineArgs.mk i (powerSaid power) (some (halfAt (le16 duration) 0).toNat)) = _
    rw [halfAt_le16]; rfl

/-- POWER switched where no phone is restarted (R131, R132). -/
theorem switchPower_eq_withLane {s : State} {i : LaneId} {level : Bool}
    (h : level = false → (s.lane i).power = true → (s.lane i).state.occupied = false) :
    s.switchPower i level = s.withLane i { s.lane i with power := level } := by
  unfold State.switchPower
  split_ifs with hsame hrestart
  · rw [withLane_eq_of_lane_eq]; rw [← hsame]
  · obtain ⟨rfl, hocc⟩ := hrestart
    rw [h rfl (Bool.not_eq_false _ ▸ hsame)] at hocc
    cases hocc
  · rfl

/-- A LINE's POWER action (R131, R132, R137). -/
def powerActed (s : State) (i : LaneId) (power : Option Bool) : State :=
  match power with
  | some level => s.switchPower i level
  | none => s

/-- A LINE's KEY action (R134, R137). -/
def keyActed (s : State) (i : LaneId) (pulse : Option Nat) : State :=
  match pulse with
  | some duration => s.pulseKey i duration
  | none => s

theorem actLines_eq (s : State) (a : LineArgs) :
    s.actLines a = keyActed (powerActed s a.lane a.power) a.lane a.pulse := by
  unfold State.actLines
  cases a.power <;> cases a.pulse <;> rfl

/-- KEY's timer after a LINE's KEY action (R134). -/
theorem keyActed_eq_withLane (s : State) (i : LaneId) (key : Byte) (duration : Half) :
    keyActed s i (if key = 0x00#8 then none else some duration.toNat) = s.withLane i
      { s.lane i with
        keyPulse :=
          if key = 0x00#8 then (s.lane i).keyPulse
          else if duration = 0#16 then none else some duration.toNat } := by
  have hzero : (duration.toNat = 0) = (duration = 0#16) := by
    rw [eq_iff_iff]; exact ⟨fun h => by bv_omega, fun h => by simp [h]⟩
  by_cases hkey : key = 0x00#8
  · simp only [hkey, if_true]
    exact (withLane_eq_of_lane_eq rfl).symm
  · simp only [hkey, if_false]
    simp only [keyActed, State.pulseKey, updLane_eq_withLane, hzero]

/-- POWER after a LINE's POWER action that restarts no phone (R131). -/
theorem powerActed_eq_withLane {s : State} {i : LaneId} {power : Byte} (hvalid : power.toNat ≤ 2)
    (h : ¬(power = 0x02#8 ∧ (s.lane i).power = true ∧ (s.lane i).state.occupied = true)) :
    powerActed s i (powerSaid power) = s.withLane i
      { s.lane i with
        power := if power = 0x01#8 then true else if power = 0x02#8 then false else (s.lane i).power } := by
  have hp : power = 0x00#8 ∨ power = 0x01#8 ∨ power = 0x02#8 := by bv_omega
  obtain rfl | rfl | rfl := hp
  · exact (withLane_eq_of_lane_eq rfl).symm
  · exact switchPower_eq_withLane fun hoff => (by cases hoff)
  · exact switchPower_eq_withLane fun _ hon => by
      cases hocc : (s.lane i).state.occupied
      · rfl
      · exact absurd ⟨rfl, hon, hocc⟩ h

/-- A LINE that restarts no phone changes POWER and KEY of its lane (R137). -/
theorem actLines_eq_withLane {s : State} {i : LaneId} {power : Byte} (key : Byte) (duration : Half)
    (hvalid : power.toNat ≤ 2)
    (h : ¬(power = 0x02#8 ∧ (s.lane i).power = true ∧ (s.lane i).state.occupied = true)) :
    s.actLines (lineArgs i power key duration) = s.withLane i
      { s.lane i with
        power := if power = 0x01#8 then true else if power = 0x02#8 then false else (s.lane i).power
        keyPulse :=
          if key = 0x00#8 then (s.lane i).keyPulse
          else if duration = 0#16 then none else some duration.toNat } := by
  rw [actLines_eq]
  simp only [lineArgs]
  rw [powerActed_eq_withLane hvalid h, keyActed_eq_withLane, withLane_lane_self, withLane_withLane]

theorem checkLine_eq {s : State} {o : Order} (rest : List Order) (hstart : s.startup = false) :
    checkLine (s.taken o rest) o = parseLine o.body := by
  have : (s.taken o rest).startup = false := hstart
  rw [checkLine, notInStartup, this]; rfl

/-- Settles O16: the checks, then the lane as `actLines_eq_withLane` says. -/
theorem lineSwitchesPowerAndKey : Obligations.LineSwitchesPowerAndKey := by
  intro s o rest hready hkind
  have hmine : o.isKind .line = true := isKind_of_kind hkind
  refine ⟨fun hstart => ?_, fun hstart hlen => ?_, fun hstart hlen hbad => ?_,
    fun i power key duration l hstart hbody hpower hkey hno hl => ⟨_, ?_, rfl, ?_⟩⟩
  · exact serves_line.refused hready hmine (if_pos hstart)
  · exact serves_line.refused hready hmine ((checkLine_eq rest hstart).trans (parseLine_of_length_ne hlen))
  · exact serves_line.refused hready hmine ((checkLine_eq rest hstart).trans (parseLine_of_bad_value hlen hbad))
  · have hcheck : checkLine (s.taken o rest) o = .ok (lineArgs i power key duration) := by
      rw [checkLine_eq rest hstart, hbody, parseLine_body i duration hpower hkey]
    have hact : (s.taken o rest).actLines (lineArgs i power key duration) = (s.taken o rest).withLane i l := by
      rw [hl]; exact actLines_eq_withLane key duration hpower hno
    refine serves_line.withLane hready hmine hcheck ?_
    rw [actLine, hact]
    show (_, (((s.taken o rest).withLane i l).lane i).lineAnswer) = _
    rw [withLane_lane_self]; rfl
  · rintro rfl
    refine keyPulseExpiry_of_ne ?_
    rw [withLane_lane_self]
    have hpulse : l.keyPulse = if duration = 0#16 then none else some duration.toNat := by rw [hl]; rfl
    rw [hpulse]
    split_ifs with hzero
    · simp
    · simp only [ne_eq, Option.some.injEq]
      exact fun h => hzero (by bv_omega)

/-! ### LANE-SET (R179, R180) -/

/-- The fields of a LANE-SET body. -/
def LaneSetBytes.args (a : LaneSetBytes) (i : LaneId) : LaneSetArgs :=
  { lane := i, enable := settingSaid a.enable, rate := rateSaid a.rate
    markWindow := timingOf 1 255 a.window, retryPause := timingOf 1 255 a.pause, retryLimit := retryLimitOf a.retry
    gapLimit := timingOf 1 50 a.gap, debounceTime := timingOf 1 1000 a.seat, announceLimit := timingOf 1 255 a.ann
    autoPower := settingSaid a.auto, rejectEnable := settingSaid a.reject }

theorem parseLaneSet_of_length_ne {b : List Byte} (h : b.length ≠ 16) : parseLaneSet b = .error .badOrder := if_pos h

theorem parseLaneSet_of_bad_value {b : List Byte} (hlen : b.length = 16)
    (h : (byteAt b 0).toNat < 1 ∨ 16 < (byteAt b 0).toNat ∨ (byteAt b 1 ≠ 0xFF#8 ∧ 1 < (byteAt b 1).toNat)
      ∨ (byteAt b 2 ≠ 0xFF#8 ∧ 2 < (byteAt b 2).toNat) ∨ (byteAt b 14 ≠ 0xFF#8 ∧ 1 < (byteAt b 14).toNat)
      ∨ (byteAt b 15 ≠ 0xFF#8 ∧ 1 < (byteAt b 15).toNat)) :
    parseLaneSet b = .error .badValue := by
  rw [parseLaneSet, if_neg (not_not.2 hlen)]
  split
  · rename_i hi henable hrate hauto hreject
    have hlane := mt (laneOfByte_eq_none_iff (byteAt b 0)).2 (by simp [hi])
    obtain h | h | h | h | h | h := h
    · exact absurd (.inl h) hlane
    · exact absurd (.inr h) hlane
    · rw [(settingOfByte_eq_none_iff _).2 h] at henable; cases henable
    · rw [(rateOfByte_eq_none_iff _).2 h] at hrate; cases hrate
    · rw [(settingOfByte_eq_none_iff _).2 h] at hauto; cases hauto
    · rw [(settingOfByte_eq_none_iff _).2 h] at hreject; cases hreject
  · rfl

theorem parseLaneSet_body (a : LaneSetBytes) (i : LaneId) (henable : a.enable = 0xFF#8 ∨ a.enable.toNat ≤ 1)
    (hrate : a.rate = 0xFF#8 ∨ a.rate.toNat ≤ 2) (hauto : a.auto = 0xFF#8 ∨ a.auto.toNat ≤ 1)
    (hreject : a.reject = 0xFF#8 ∨ a.reject.toNat ≤ 1) : parseLaneSet (a.body i) = .ok (a.args i) := by
  have hwindow : halfAt (a.body i) 3 = a.window := half_le16 _
  have hpause : halfAt (a.body i) 5 = a.pause := half_le16 _
  have hgap : halfAt (a.body i) 8 = a.gap := half_le16 _
  have hseat : halfAt (a.body i) 10 = a.seat := half_le16 _
  have hann : halfAt (a.body i) 12 = a.ann := half_le16 _
  rw [parseLaneSet, if_neg (by simp [LaneSetBytes.body, le16]), hwindow, hpause, hgap, hseat, hann]
  show (match laneOfByte (laneByte i), settingOfByte a.enable, rateOfByte a.rate, settingOfByte a.auto,
      settingOfByte a.reject with
    | some i, some enable, some rate, some autoPower, some rejectEnable => _
    | _, _, _, _, _ => _) = _
  rw [laneOfByte_laneByte, settingOfByte_of_valid henable, rateOfByte_of_valid hrate, settingOfByte_of_valid hauto,
    settingOfByte_of_valid hreject]
  rfl

theorem checkLaneSet_of_error {s : State} {o : Order} {c : RefusalCode} (h : parseLaneSet o.body = .error c) :
    checkLaneSet s o = .error c := by rw [checkLaneSet, h]

/-- A LANE-SET's last check: a rate change under a phone (R179). -/
theorem checkLaneSet_body {s : State} {o : Order} {a : LaneSetBytes} {i : LaneId} (hbody : o.body = a.body i)
    (henable : a.enable = 0xFF#8 ∨ a.enable.toNat ≤ 1) (hrate : a.rate = 0xFF#8 ∨ a.rate.toNat ≤ 2)
    (hauto : a.auto = 0xFF#8 ∨ a.auto.toNat ≤ 1) (hreject : a.reject = 0xFF#8 ∨ a.reject.toNat ≤ 1) :
    checkLaneSet s o =
      if rateOver a.rate (s.lane i).settings.rate ≠ (s.lane i).settings.rate ∧ (s.lane i).state.occupied = true then
        .error .laneState
      else .ok (a.args i) := by
  rw [checkLaneSet, hbody, parseLaneSet_body a i henable hrate hauto hreject, ← rateSaid_getD hrate]
  show (match rateSaid a.rate with | none => _ | some r => _) = _
  cases rateSaid a.rate with
  | none => simp [LaneSetBytes.args]
  | some r => rfl

/-- What the fields of a LANE-SET say, over the old settings (R174, R180). -/
theorem over_eq {a : LaneSetBytes} (i : LaneId) (hrate : a.rate = 0xFF#8 ∨ a.rate.toNat ≤ 2) (t : LaneSettings) :
    a.over t =
      { t.withTiming (a.args i) with
        rate := (rateSaid a.rate).getD t.rate, autoPower := (settingSaid a.auto).getD t.autoPower
        rejectEnable := (settingSaid a.reject).getD t.rejectEnable } := by
  simp only [LaneSetBytes.over, LaneSettings.withTiming, LaneSetBytes.args, settingSaid_getD, rateSaid_getD hrate,
    retryLimitOf_getD, timingOf_getD (show 1 ≤ 255 by decide), timingOf_getD (show 1 ≤ 50 by decide),
    timingOf_getD (show 1 ≤ 1000 by decide)]

/-- POWER of a lane after auto-power is set to a level, no phone being restarted (R133). -/
def autoPowered (l : Lane) (level : Option Bool) : Bool :=
  match level with
  | none => l.power
  | some true => l.power || (!l.settings.autoPower && l.state.occupied)
  | some false => l.power && !l.settings.autoPower

/-- Step 5 of a LANE-SET that restarts no phone (R133, R180). -/
theorem laneSetPowered_eq_withLane {s : State} {a : LaneSetArgs} (h : a.autoPower = some false →
    (s.lane a.lane).settings.autoPower = true → (s.lane a.lane).power = true →
      (s.lane a.lane).state.occupied = false) :
    laneSetPowered a s = s.withLane a.lane
      { s.lane a.lane with
        settings :=
          { (s.lane a.lane).settings with autoPower := a.autoPower.getD (s.lane a.lane).settings.autoPower }
        power := autoPowered (s.lane a.lane) a.autoPower } := by
  unfold laneSetPowered
  cases hauto : a.autoPower with
  | none => exact (withLane_eq_of_lane_eq rfl).symm
  | some level =>
    simp only [State.setAutoPower]
    by_cases hsame : (s.lane a.lane).settings.autoPower = level
    · rw [if_pos hsame, withLane_eq_of_lane_eq]
      have hpower : autoPowered (s.lane a.lane) (some level) = (s.lane a.lane).power := by
        cases level <;> simp [autoPowered, hsame]
      rw [hpower, Option.getD_some, ← hsame]
    · rw [if_neg hsame]
      have hold : (s.lane a.lane).settings.autoPower = !level := by
        cases level <;> simpa using hsame
      cases level with
      | true =>
        rw [if_pos rfl]
        cases hocc : (s.lane a.lane).state.occupied
        · rw [if_neg (by simp), updLane_eq_withLane]
          simp [autoPowered, hocc]
        · rw [if_pos rfl, switchPower_eq_withLane fun h => (by cases h), updLane_eq_withLane]
          simp [autoPowered, hocc, hold]
      | false =>
        rw [if_neg (by simp), switchPower_eq_withLane, updLane_eq_withLane]
        · simp [autoPowered, hold]
        · rw [updLane_eq_withLane, withLane_lane_self]
          exact fun _ => h hauto hold

/-- A lane under steps 3 to 5 of a LANE-SET that restarts no phone (R180). -/
def fieldsStored (a : LaneSetArgs) (l : Lane) : Lane :=
  { l with
    settings :=
      { l.settings with
        rate := a.rate.getD l.settings.rate, rejectEnable := a.rejectEnable.getD l.settings.rejectEnable
        autoPower := a.autoPower.getD l.settings.autoPower }
    power := autoPowered l a.autoPower }

theorem laneSetStored_eq_withLane (s : State) (a : LaneSetArgs) : laneSetStored a s = s.withLane a.lane
    { s.lane a.lane with
      settings :=
        { (s.lane a.lane).settings with
          rate := a.rate.getD (s.lane a.lane).settings.rate
          rejectEnable := a.rejectEnable.getD (s.lane a.lane).settings.rejectEnable } } := rfl

theorem laneSetTimed_eq_withLane (s : State) (a : LaneSetArgs) : laneSetTimed a s = s.withLane a.lane
    { s.lane a.lane with settings := (s.lane a.lane).settings.withTiming a } := rfl

/-- Steps 3 to 5 of a LANE-SET that restarts no phone change their lane only (R180). -/
theorem laneSetPowered_laneSetStored {s : State} {a : LaneSetArgs} (h : a.autoPower = some false →
    (s.lane a.lane).settings.autoPower = true → (s.lane a.lane).power = true →
      (s.lane a.lane).state.occupied = false) :
    laneSetPowered a (laneSetStored a s) = s.withLane a.lane (fieldsStored a (s.lane a.lane)) := by
  rw [laneSetPowered_eq_withLane, laneSetStored_eq_withLane, withLane_lane_self, withLane_withLane]
  · unfold fieldsStored autoPowered
    rfl
  · rw [laneSetStored_eq_withLane, withLane_lane_self]
    exact h

/-- A LANE-SET's auto-power field restarts no phone (R133). -/
def RestartsNone (a : LaneSetBytes) (l : Lane) : Prop :=
  ¬(a.auto = 0x00#8 ∧ l.settings.autoPower = true ∧ l.power = true ∧ l.state.occupied = true)

theorem settingSaid_eq_false {b : Byte} (h : b = 0xFF#8 ∨ b.toNat ≤ 1) :
    settingSaid b = some false ↔ b = 0x00#8 := by
  have hb : b = 0xFF#8 ∨ b = 0x00#8 ∨ b = 0x01#8 := by bv_omega
  obtain rfl | rfl | rfl := hb <;> decide

theorem RestartsNone.unoccupied {a : LaneSetBytes} {l : Lane} (h : RestartsNone a l)
    (hauto : a.auto = 0xFF#8 ∨ a.auto.toNat ≤ 1) (hsaid : settingSaid a.auto = some false)
    (hold : l.settings.autoPower = true) (hpower : l.power = true) : l.state.occupied = false := by
  cases hocc : l.state.occupied
  · rfl
  · exact absurd ⟨(settingSaid_eq_false hauto).1 hsaid, hold, hpower, hocc⟩ h

/-- POWER after a LANE-SET that restarts no phone, by the byte of its auto-power field (R133, R202). -/
theorem autoPowered_settingSaid {b : Byte} (h : b = 0xFF#8 ∨ b.toNat ≤ 1) (l : Lane) :
    autoPowered l (settingSaid b) =
      if b = 0x01#8 ∧ l.settings.autoPower = false ∧ l.state.occupied = true then true
      else if b = 0x00#8 ∧ l.settings.autoPower = true then false
      else l.power := by
  have hb : b = 0xFF#8 ∨ b = 0x00#8 ∨ b = 0x01#8 := by bv_omega
  obtain rfl | rfl | rfl := hb
  · rfl
  · simp only [autoPowered, settingSaid]
    cases l.settings.autoPower <;> simp
  · simp only [autoPowered, settingSaid]
    cases l.settings.autoPower <;> cases l.state.occupied <;> simp

/-- A lane under a LANE-SET that neither enables nor disables and restarts no phone (R180). -/
def settingsStored (a : LaneSetBytes) (l : Lane) : Lane :=
  { l with settings := a.over l.settings, power := autoPowered l (settingSaid a.auto) }

theorem laneSetDisabled_of_not {s : State} {a : LaneSetArgs}
    (h : ¬(a.enable = some false ∧ (s.lane a.lane).settings.enabled = true)) : laneSetDisabled a s = s := if_neg h

theorem laneSetEnabled_of_not {s : State} {a : LaneSetArgs}
    (h : ¬(a.enable = some true ∧ (s.lane a.lane).settings.enabled = false)) : laneSetEnabled a s = s := if_neg h

/-- A LANE-SET that does not disable, up to its last step (R180). -/
theorem setLane_of_not_disabling {s : State} {a : LaneSetBytes} {i : LaneId}
    (hrate : a.rate = 0xFF#8 ∨ a.rate.toNat ≤ 2)
    (hauto : a.auto = 0xFF#8 ∨ a.auto.toNat ≤ 1)
    (hkeeps : ¬(settingSaid a.enable = some false ∧ (s.lane i).settings.enabled = true))
    (hno : RestartsNone a (s.lane i)) :
    s.setLane (a.args i) = laneSetEnabled (a.args i) (s.withLane i (settingsStored a (s.lane i))) := by
  rw [setLane_eq, laneSetDisabled_of_not, laneSetPowered_laneSetStored, laneSetTimed_eq_withLane]
  · simp only [LaneSetBytes.args, withLane_lane_self, withLane_withLane]
    rw [settingsStored, over_eq i hrate]
    rfl
  · rw [laneSetTimed_eq_withLane, withLane_lane_self]
    exact hno.unoccupied hauto
  · rw [laneSetTimed_eq_withLane, withLane_lane_self]
    exact hkeeps

/-- A field that leaves a setting or repeats it says nothing new. -/
theorem settingSaid_of_same {b : Byte} {old : Bool} (h : b = 0xFF#8 ∨ b = levelByte old) {new : Bool}
    (hsaid : settingSaid b = some new) : new = old := by
  obtain rfl | rfl := h
  · cases hsaid
  · cases old <;> cases new <;> simp_all [settingSaid, levelByte]

theorem setLane_of_keeping {s : State} {a : LaneSetBytes} {i : LaneId}
    (hrate : a.rate = 0xFF#8 ∨ a.rate.toNat ≤ 2)
    (hauto : a.auto = 0xFF#8 ∨ a.auto.toNat ≤ 1)
    (hkeeps : a.enable = 0xFF#8 ∨ a.enable = levelByte (s.lane i).settings.enabled) (hno : RestartsNone a (s.lane i)) :
    s.setLane (a.args i) = s.withLane i (settingsStored a (s.lane i)) := by
  rw [setLane_of_not_disabling hrate hauto _ hno, laneSetEnabled_of_not]
  · rintro ⟨hon, hold⟩
    rw [LaneSetBytes.args, withLane_lane_self] at hold
    exact Bool.false_ne_true (hold.symm.trans (settingSaid_of_same hkeeps hon).symm)
  · rintro ⟨hoff, hold⟩
    exact Bool.false_ne_true ((settingSaid_of_same hkeeps hoff).trans hold)

/-- A LANE-SET's action that replaces its lane, with what its ANSWER gives (R180). -/
theorem actLaneSet_of_withLane {s : State} {a : LaneSetArgs} {i : LaneId} {l : Lane} (ha : a.lane = i)
    (h : s.setLane a = s.withLane i l) : actLaneSet a s = (s.withLane i l, .okLaneSet l.settings l.state) := by
  rw [actLaneSet, h, ha, withLane_lane_self]

/-- Settles O18: the checks, then the lane as `setLane_of_not_disabling` says. -/
theorem laneSetStoresSettings : Obligations.LaneSetStoresSettings := by
  intro s o rest hready hkind
  have hmine : o.isKind .laneSet = true := isKind_of_kind hkind
  refine ⟨fun hlen => ?_, fun hlen hbad => ?_, fun i a hbody henable hrate hauto hreject => ?_⟩
  · exact serves_laneSet.refused hready hmine (checkLaneSet_of_error (parseLaneSet_of_length_ne hlen))
  · exact serves_laneSet.refused hready hmine (checkLaneSet_of_error (parseLaneSet_of_bad_value hlen hbad))
  · have hcheck := checkLaneSet_body (s := s.taken o rest) hbody henable hrate hauto hreject
    refine ⟨fun hchange hocc => ?_, fun hkeeps hsame hno => ?_⟩
    · exact serves_laneSet.refused hready hmine (hcheck.trans (if_pos ⟨hchange, hocc⟩))
    · rw [if_neg] at hcheck
      swap
      · rintro ⟨hchange, hocc⟩
        obtain h | h := hsame
        · exact hchange h
        · exact Bool.false_ne_true (h.symm.trans hocc)
      have hact := actLaneSet_of_withLane (a := a.args i) rfl
        (setLane_of_keeping (s := s.taken o rest) (i := i) hrate hauto hkeeps hno)
      rw [serves_laneSet.withLane hready hmine hcheck hact, settingsStored, autoPowered_settingSaid hauto]
      rfl

/-! ### Enable and disable without a phone (R33, R180) -/

/-- A disable of a lane without a phone (R33). -/
theorem disableLane_eq_withLane {s : State} {i : LaneId} (hocc : (s.lane i).state.occupied = false) :
    s.disableLane i = s.withLane i
      { huntingAfresh (s.lane i) with
        settings := { (s.lane i).settings with enabled := false }, state := .off } := by
  unfold State.disableLane
  dsimp only
  rw [if_neg (by simp [hocc])]
  simp only [updLane_eq_withLane, withLane_withLane, withLane_lane_self]
  rfl

/-- A lane leaves OFF for EMPTY where its seat level is off, and is seated where it is on (R33). -/
theorem leaveOff_eq (s : State) (i : LaneId) : s.leaveOff i =
    if (s.lane i).seat then (s.withLane i (seatedLane (s.lane i))).recordEvent i .seated
    else s.withLane i { huntingAfresh (s.lane i) with state := .empty } := by
  unfold State.leaveOff
  rw [seatLane_eq]
  rfl

theorem leaveOff_withLane (s : State) (i : LaneId) (l : Lane) : (s.withLane i l).leaveOff i =
    if l.seat then (s.withLane i (seatedLane l)).recordEvent i .seated
    else s.withLane i { huntingAfresh l with state := .empty } := by
  rw [leaveOff_eq, withLane_lane_self, withLane_withLane, withLane_withLane]

/-- A lane's enabled setting. -/
def withEnabled (l : Lane) (level : Bool) : Lane := { l with settings := { l.settings with enabled := level } }

/-- An enable leaves the lane OFF under STARTUP, and takes it out of OFF otherwise (R33). -/
theorem enableLane_of_off {s : State} {i : LaneId} (hoff : (s.lane i).state = .off) : s.enableLane i =
    if s.startup then s.withLane i (withEnabled (s.lane i) true)
    else (s.withLane i (withEnabled (s.lane i) true)).leaveOff i := by
  unfold State.enableLane
  cases s.startup
  · exact if_pos ⟨rfl, hoff⟩
  · exact if_neg fun h => (by cases h.1)

/-- POWER after a LANE-SET under no phone (R133). -/
theorem autoPowered_unoccupied {b : Byte} (h : b = 0xFF#8 ∨ b.toNat ≤ 1) {l : Lane}
    (hocc : l.state.occupied = false) :
    autoPowered l (settingSaid b) = if b = 0x00#8 ∧ l.settings.autoPower = true then false else l.power := by
  rw [autoPowered_settingSaid h, if_neg]
  rintro ⟨-, -, hyes⟩
  rw [hocc] at hyes; cases hyes

/-- A LANE-SET that disables a lane without a phone (R33, R180). -/
theorem setLane_of_disabling {s : State} {a : LaneSetBytes} {i : LaneId}
    (hrate : a.rate = 0xFF#8 ∨ a.rate.toNat ≤ 2)
    (hoff : settingSaid a.enable = some false) (hold : (s.lane i).settings.enabled = true)
    (hocc : (s.lane i).state.occupied = false) :
    s.setLane (a.args i) = s.withLane i
      { huntingAfresh (withEnabled (settingsStored a (s.lane i)) false) with state := .off } := by
  have hpower : autoPowered (s.lane i) (settingSaid a.auto) = autoPowered { s.lane i with state := .off }
      (settingSaid a.auto) := by
    unfold autoPowered
    rw [hocc]; rfl
  have hdisabled : laneSetDisabled (a.args i) (laneSetTimed (a.args i) s) = s.withLane i
      { huntingAfresh (s.lane i) with
        settings := { (s.lane i).settings.withTiming (a.args i) with enabled := false }, state := .off } := by
    rw [laneSetTimed_eq_withLane, laneSetDisabled, if_pos]
    · simp only [LaneSetBytes.args]
      rw [disableLane_eq_withLane (by simpa using hocc)]
      simp only [withLane_lane_self, withLane_withLane]
      rfl
    · rw [withLane_lane_self]
      exact ⟨hoff, hold⟩
  rw [setLane_eq, hdisabled, laneSetPowered_laneSetStored, laneSetEnabled_of_not]
  · simp only [LaneSetBytes.args, withLane_lane_self, withLane_withLane]
    rw [settingsStored, over_eq i hrate, hpower]
    rfl
  · rintro ⟨hon, -⟩
    exact absurd (hoff.symm.trans hon) (by simp)
  · simp only [LaneSetBytes.args, withLane_lane_self]
    exact fun _ _ _ => rfl

/-- A LANE-SET that enables a lane without a phone, up to its last step (R33, R180). -/
theorem setLane_of_enabling {s : State} {a : LaneSetBytes} {i : LaneId}
    (hrate : a.rate = 0xFF#8 ∨ a.rate.toNat ≤ 2)
    (hauto : a.auto = 0xFF#8 ∨ a.auto.toNat ≤ 1)
    (hon : settingSaid a.enable = some true) (hold : (s.lane i).settings.enabled = false)
    (hoff : (s.lane i).state = .off) :
    s.setLane (a.args i) =
      if s.startup then s.withLane i (withEnabled (settingsStored a (s.lane i)) true)
      else (s.withLane i (withEnabled (settingsStored a (s.lane i)) true)).leaveOff i := by
  rw [setLane_of_not_disabling hrate hauto, laneSetEnabled, if_pos]
  · simp only [LaneSetBytes.args]
    rw [enableLane_of_off (by rw [withLane_lane_self]; exact hoff), withLane_lane_self, withLane_withLane]
    rfl
  · simp only [LaneSetBytes.args, withLane_lane_self]
    exact ⟨hon, hold⟩
  · rintro ⟨-, hyes⟩
    rw [hold] at hyes; cases hyes
  · rintro ⟨-, -, -, hocc⟩
    rw [hoff] at hocc; cases hocc

/-- Settles O19 by `setLane_of_disabling` and `setLane_of_enabling`. -/
theorem laneEnableAndDisableEnterAndLeaveOff : Obligations.LaneEnableAndDisableEnterAndLeaveOff := by
  intro s o rest i a l hready hkind hbody hocc hrate hauto hreject hl
  have hmine : o.isKind .laneSet = true := isKind_of_kind hkind
  have hcheck (henable : a.enable.toNat ≤ 1) : checkLaneSet (s.taken o rest) o = .ok (a.args i) := by
    refine (checkLaneSet_body hbody (.inr henable) hrate hauto hreject).trans (if_neg ?_)
    rintro ⟨-, hyes⟩
    exact Bool.false_ne_true (hocc.symm.trans hyes)
  have hlane : l = withEnabled (settingsStored a (s.lane i)) (a.enable == 0x01#8) := by
    rw [hl, ← autoPowered_unoccupied hauto hocc]; rfl
  clear hl
  refine ⟨fun hoff hold => ?_, fun hon hold hstate => ?_⟩
  · rw [hoff] at hlane
    subst hlane
    have hset := setLane_of_disabling (s := s.taken o rest) (i := i) hrate (by rw [hoff]; rfl) hold hocc
    exact serves_laneSet.withLane hready hmine (hcheck (by rw [hoff]; decide)) (actLaneSet_of_withLane rfl hset)
  · have hset : (s.taken o rest).setLane (a.args i) = if s.startup then (s.taken o rest).withLane i l
        else ((s.taken o rest).withLane i l).leaveOff i := by
      rw [hlane, hon]
      exact setLane_of_enabling hrate hauto (by rw [hon]; rfl) hold hstate
    have hstays : l.state = .off := by rw [hlane]; exact hstate
    have hchecked := hcheck (by rw [hon]; decide)
    clear hlane
    refine ⟨fun hstart => ?_, fun hstart hseat => ?_, fun hstart hseat => ?_⟩
    · have hact := actLaneSet_of_withLane (a := a.args i) rfl (hset.trans (if_pos hstart))
      rw [hstays] at hact
      exact serves_laneSet.withLane hready hmine hchecked hact
    · rw [leaveOff_withLane, if_neg (Bool.eq_false_iff.1 hstart), if_neg (Bool.eq_false_iff.1 hseat)] at hset
      exact serves_laneSet.withLane hready hmine hchecked (actLaneSet_of_withLane (a := a.args i) rfl hset)
    · rw [leaveOff_withLane, if_neg (Bool.eq_false_iff.1 hstart), if_pos hseat] at hset
      obtain ⟨hframe, hevents⟩ := withLane_recordEvent (s.taken o rest) i i (seatedLane l) .seated
      have hself := recordEvent_lane ((s.taken o rest).withLane i (seatedLane l)) i i .seated
      rw [withLane_lane_self] at hself
      have hact : actLaneSet (a.args i) (s.taken o rest) =
          (((s.taken o rest).withLane i (seatedLane l)).recordEvent i .seated, .okLaneSet l.settings .seated) := by
        rw [actLaneSet, hset]
        simp only [LaneSetBytes.args, hself]
        rfl
      obtain ⟨t, hexec, hfollows⟩ := serves_laneSet.answerFollows hready hmine hchecked hact
      exact ⟨_, t, hexec, hfollows, hframe, hevents⟩

end Sys2Proof
end

section
/-! PROOFS of the statements about INSTRUMENT-SET, BEACON-SET, RESUME and START. -/

namespace Sys2Proof

open Sys2Proof.Machine

/-! ### INSTRUMENT-SET (R152, R153) -/

@[simp] theorem instrumentOfByte_instrumentByte (k : InstrumentId) : instrumentOfByte (instrumentByte k) = some k := by
  have hval : (instrumentByte k).toNat = k.val + 1 := byteOf_toNat (by omega)
  have hrange : 1 ≤ (instrumentByte k).toNat ∧ (instrumentByte k).toNat ≤ 4 := by omega
  rw [instrumentOfByte, dif_pos hrange]
  simp [hval]

theorem levelOfByte_levelByte (level : Bool) : levelOfByte (levelByte level) = some level := by
  cases level <;> decide

theorem parseInstrumentSet_of_bad_value {b : List Byte} (hlen : b.length = 4)
    (h : (byteAt b 0).toNat < 1 ∨ 4 < (byteAt b 0).toNat ∨ 1 < (byteAt b 1).toNat) :
    parseInstrumentSet b = .error .badValue := by
  rw [parseInstrumentSet, if_neg (not_not.2 hlen)]
  split
  · rename_i hk hlevel
    have h1 := mt (instrumentOfByte_isNone_iff (byteAt b 0)).2 (by simp [hk])
    have h2 := mt (levelOfByte_eq_none_iff (byteAt b 1)).2 (by simp [hlevel])
    omega
  · rfl

theorem parseInstrumentSet_body (k : InstrumentId) (enabled : Bool) (limit : Half) :
    parseInstrumentSet (instrumentByte k :: levelByte enabled :: le16 limit) = .ok (k, enabled, limit.toNat) := by
  have hlimit : halfAt (instrumentByte k :: levelByte enabled :: le16 limit) 2 = limit := half_le16 _
  rw [parseInstrumentSet, if_neg (by simp [le16]), hlimit]
  show (match instrumentOfByte (instrumentByte k), levelOfByte (levelByte enabled) with
    | some k, some enabled => _
    | _, _ => _) = _
  rw [instrumentOfByte_instrumentByte, levelOfByte_levelByte]

theorem updInstrument_eq_withInstrument (s : State) (k : InstrumentId) (f : Instrument → Instrument) :
    s.updInstrument k f = s.withInstrument k (f (s.instrument k)) := rfl

@[simp] theorem withInstrument_instrument_self (s : State) (k : InstrumentId) (n : Instrument) :
    (s.withInstrument k n).instrument k = n := by simp [State.withInstrument, State.instrument]

@[simp] theorem withInstrument_withInstrument (s : State) (k : InstrumentId) (n n' : Instrument) :
    (s.withInstrument k n).withInstrument k n' = s.withInstrument k n' := by simp [State.withInstrument]

/-- An INSTRUMENT-SET that does not disable changes two fields of its record (R152). -/
theorem setInstrument_of_not_disabling {s : State} {k : InstrumentId} {enabled : Bool} (limit : Nat)
    (h : enabled = true ∨ (s.instrument k).enabled = false) :
    s.setInstrument k enabled limit =
      s.withInstrument k { s.instrument k with enabled := enabled, holdLimit := limit } := by
  unfold State.setInstrument
  dsimp only
  split_ifs with hsame henabled
  · rw [updInstrument_eq_withInstrument, ← hsame]
  · rw [updInstrument_eq_withInstrument, updInstrument_eq_withInstrument, withInstrument_instrument_self,
      withInstrument_withInstrument, henabled]
  · obtain h | h := h
    · exact absurd h henabled
    · exact absurd (h ▸ Bool.eq_false_iff.2 henabled) hsame

/-- Settles O21, check by check. -/
theorem instrumentSetStoresAndEnables : Obligations.InstrumentSetStoresAndEnables := by
  intro s o rest hready hkind
  have hmine : o.isKind .instrumentSet = true := isKind_of_kind hkind
  refine ⟨fun hlen => ?_, fun hlen hbad => ?_, fun k enabled limit hbody hkeeps => ?_⟩
  · exact serves_instrumentSet.refused hready hmine (if_pos hlen)
  · exact serves_instrumentSet.refused hready hmine (parseInstrumentSet_of_bad_value hlen hbad)
  · have hset := setInstrument_of_not_disabling (s := s.taken o rest) limit.toNat hkeeps
    have hno : ((s.instrument k).enabled && !enabled) = false := by
      obtain h | h := hkeeps <;> simp [h]
    have hact : actInstrumentSet (k, enabled, limit.toNat) (s.taken o rest) = ((s.taken o rest).withInstrument k
        { s.instrument k with enabled := enabled, holdLimit := limit.toNat },
        .okInstrumentSet enabled limit.toNat none 0#16) := by
      rw [actInstrumentSet, hset]
      show (_, AnswerBody.okInstrumentSet _ _ (if ((s.instrument k).enabled && !enabled) then _ else _)
        (if ((s.instrument k).enabled && !enabled) then _ else _)) = _
      rw [hno]; rfl
    rw [serves_instrumentSet.finished hready hmine (hbody ▸ parseInstrumentSet_body k enabled limit) hact rfl]
    obtain ⟨-, -, hcurrent, hreserved, -⟩ := hready
    simp only [State.finished, State.withInstrument, State.taken, State.answered, hcurrent, hreserved]

/-- From one state to another only lanes and instrument records changed. -/
def PlacesControl (s t : State) : Prop := t = { s with lanes := t.lanes, instruments := t.instruments }

theorem PlacesControl.trans {s t u : State} (h : PlacesControl s t) (g : PlacesControl t u) : PlacesControl s u := by
  unfold PlacesControl at *
  rw [g, h]

theorem denyWaiters_placesControl (s : State) (k : InstrumentId) : PlacesControl s (s.denyWaiters k) :=
  foldl_keeps (R := PlacesControl) (fun _ => rfl) PlacesControl.trans (fun s i => by split <;> rfl) _ s

theorem PlacesControl.events {s t u : State} {l : List (LaneId × EventKind)} (h : EventsRecorded s t l)
    (g : PlacesControl t u) : EventsRecorded s u l := by rw [g]; exact h

theorem PlacesControl.urgent {s t u : State} {l : List UrgentReport} (h : UrgentOffered s t l)
    (g : PlacesControl t u) : UrgentOffered s u l := by rw [g]; exact h

/-- A disabled instrument's holder is reported REVOKED, and nothing else is reported (R153, R155). -/
theorem disableInstrument_reports (s : State) (k : InstrumentId) :
    EventsRecorded s (s.disableInstrument k) ((s.instrument k).holder.toList.map fun i => (i, .instrument))
      ∧ ∃ w, UrgentOffered s (s.disableInstrument k)
          ((s.instrument k).holder.toList.map fun i => .instrument k .revoked i 0 w) := by
  have hplaces : PlacesControl (revokeHolder s k) (s.disableInstrument k) :=
    (denyWaiters_placesControl (revokeHolder s k) k).trans rfl
  suffices hrevoked : EventsRecorded s (revokeHolder s k)
        ((s.instrument k).holder.toList.map fun i => (i, .instrument))
      ∧ ∃ w, UrgentOffered s (revokeHolder s k)
          ((s.instrument k).holder.toList.map fun i => .instrument k .revoked i 0 w) by
    obtain ⟨hevents, w, hurgent⟩ := hrevoked
    exact ⟨hplaces.events hevents, w, hplaces.urgent hurgent⟩
  unfold revokeHolder
  cases hholder : (s.instrument k).holder with
  | none => exact ⟨.refl s, 0#16, .refl s⟩
  | some i => exact ⟨reportInstrument_recorded _ k .revoked i 0, _, reportInstrument_offered _ k .revoked i 0⟩

/-- Settles O22 by what `disableInstrument` leaves. -/
theorem instrumentDisableRevokesAndDenies : Obligations.InstrumentDisableRevokesAndDenies := by
  intro s o rest k limit hready hlaw hkind hbody henabled
  have hmine : o.isKind .instrumentSet = true := isKind_of_kind hkind
  let v : State := (s.taken o rest).updInstrument k fun n => { n with holdLimit := limit.toNat }
  have hinstr (m : InstrumentId) : v.instrument m =
      if m = k then { s.instrument k with holdLimit := limit.toNat } else s.instrument m :=
    State.instrument_updInstrument (s.taken o rest) k m fun n => { n with holdLimit := limit.toNat }
  have hself : v.instrument k = { s.instrument k with holdLimit := limit.toNat } := (hinstr k).trans (if_pos rfl)
  have htimer : (v.instrument k).holder = none → (v.instrument k).holdTimer = none := by
    rw [hself]; exact (hlaw k).2.2.2.2
  have hset : (s.taken o rest).setInstrument k false limit.toNat = v.disableInstrument k := by
    unfold State.setInstrument
    refine (if_neg ?_).trans (if_neg Bool.false_ne_true)
    show ¬false = (s.instrument k).enabled
    rw [henabled]; decide
  have hact : actInstrumentSet (k, false, limit.toNat) (s.taken o rest) = (v.disableInstrument k,
      .okInstrumentSet false limit.toNat (s.instrument k).holder (s.instrument k).waiting) := by
    rw [actInstrumentSet, hset]
    show (_, AnswerBody.okInstrumentSet _ _ (if ((s.instrument k).enabled && !false) then _ else _)
      (if ((s.instrument k).enabled && !false) then _ else _)) = _
    rw [henabled]; rfl
  have hparse : parseInstrumentSet o.body = .ok (k, false, limit.toNat) :=
    hbody ▸ parseInstrumentSet_body k false limit
  obtain ⟨t, hexec, hfollows⟩ := serves_instrumentSet.answerFollows hready hmine hparse hact
  obtain ⟨hevents, w, hurgent⟩ := disableInstrument_reports v k
  rw [hself] at hevents hurgent
  refine ⟨_, t, hexec, hfollows, ?_, ?_, fun k' hne => ?_, fun i => ?_, hevents, w, hurgent⟩
  · exact ArbiterFrame.trans (t := v) rfl (disableInstrument_frame v k)
  · rw [disableInstrument_instrument v k k htimer, if_pos rfl, hself]
  · rw [disableInstrument_instrument v k k' htimer, if_neg hne, hinstr, if_neg hne]
  · rw [disableInstrument_lane v k i htimer, hself]; rfl

/-! ### BEACON-SET (R181, R194) -/

theorem selectionOfByte_eq_none_iff (b : Byte) : selectionOfByte b = none ↔ 3 < b.toNat := by
  unfold selectionOfByte
  split_ifs with h0 h1 h2 h3
  · simp [h0]
  · simp [h1]
  · simp [h2]
  · simp [h3]
  · simp only [true_iff]; bv_omega

theorem parseBeaconSet_of_bad_value {b : List Byte} (hlen : b.length = 5)
    (h : 511 < (halfAt b 2).toNat ∨ 3 < (byteAt b 4).toNat) : parseBeaconSet b = .error .badValue := by
  rw [parseBeaconSet, if_neg (not_not.2 hlen)]
  split_ifs with hmask
  · rfl
  · rw [(selectionOfByte_eq_none_iff _).2 (h.resolve_left hmask)]

theorem parseBeaconSet_body (interval : Half) (mask : BitVec 9) (sel : Selection) :
    parseBeaconSet (le16 interval ++ le16 (mask.setWidth 16) ++ [sel.code]) =
      .ok (min 10000 (max 10 interval.toNat), mask, sel) := by
  have hinterval : halfAt (le16 interval ++ le16 (mask.setWidth 16) ++ [sel.code]) 0 = interval := half_le16 _
  have hmask : halfAt (le16 interval ++ le16 (mask.setWidth 16) ++ [sel.code]) 2 = mask.setWidth 16 := half_le16 _
  have hlt : ¬511 < (mask.setWidth 16).toNat := by
    have := mask.isLt
    simp only [BitVec.toNat_setWidth]
    omega
  have hback : (mask.setWidth 16).setWidth 9 = mask := by
    ext k; simp
  have hsel : selectionOfByte sel.code = some sel := by cases sel <;> decide
  rw [parseBeaconSet, if_neg (by simp [le16]), hmask, if_neg hlt, hinterval, hback, clamp_eq (by decide)]
  show (match selectionOfByte sel.code with | none => _ | some sel => _) = _
  rw [hsel]

theorem holdsMasked_eq_true_iff (s : State) (mask : BitVec 9) :
    s.holdsMasked mask = true ↔ ∃ i : LaneId, s.holding[i] &&& mask ≠ 0#9 := by
  simp [State.holdsMasked, mem_laneIds]

/-- An early request, as the beacon's due flag, interval timer and request flag then stand (R189). -/
theorem requestEarly_spec (s : State) :
    if s.beaconDue = false then
      (if s.spacingTimer = none then
        s.requestEarly.beaconDue = true ∧ s.requestEarly.intervalTimer = none ∧ s.requestEarly.earlyRequest = false
      else s.requestEarly.beaconDue = false ∧ s.requestEarly.intervalTimer = s.intervalTimer
        ∧ s.requestEarly.earlyRequest = true)
    else s.requestEarly = s := by
  rcases requestEarly_cases s with ⟨hd, h⟩ | ⟨hd, hs, h⟩ | ⟨hd, hs, h⟩ <;> simp [hd, h] <;> simp [hs]

/-- A BEACON-SET stores its three values, and may ask for an early beacon (R181, R194). -/
theorem setBeacon_spec (s : State) (interval : Nat) (mask : BitVec 9) (sel : Selection) :
    s.setBeacon interval mask sel =
        { s with
          interval := interval, noticeMask := mask, selection := sel
          beaconDue := (s.setBeacon interval mask sel).beaconDue
          intervalTimer := (s.setBeacon interval mask sel).intervalTimer
          earlyRequest := (s.setBeacon interval mask sel).earlyRequest }
      ∧ (s.setBeacon interval mask sel =
          if s.holdsMasked mask then { s with interval := interval, noticeMask := mask, selection := sel }.requestEarly
          else { s with interval := interval, noticeMask := mask, selection := sel }) := by
  have heq : s.setBeacon interval mask sel =
      if s.holdsMasked mask then { s with interval := interval, noticeMask := mask, selection := sel }.requestEarly
      else { s with interval := interval, noticeMask := mask, selection := sel } := rfl
  refine ⟨?_, heq⟩
  rw [heq]
  cases s.holdsMasked mask
  · rfl
  · rw [if_pos rfl]
    rcases requestEarly_cases { s with interval := interval, noticeMask := mask, selection := sel } with
      ⟨-, h⟩ | ⟨-, -, h⟩ | ⟨-, -, h⟩ <;> rw [h]

/-- Settles O23. -/
theorem beaconSetStoresAndMayAskEarly : Obligations.BeaconSetStoresAndMayAskEarly := by
  intro s o rest hready hkind
  have hmine : o.isKind .beaconSet = true := isKind_of_kind hkind
  refine ⟨fun hlen => ?_, fun hlen hbad => ?_, fun interval mask sel hbody => ?_⟩
  · exact serves_beaconSet.refused hready hmine (if_pos hlen)
  · exact serves_beaconSet.refused hready hmine (parseBeaconSet_of_bad_value hlen hbad)
  · obtain ⟨t, hexec, hfollows⟩ := serves_beaconSet.answerFollows hready hmine
      (hbody ▸ parseBeaconSet_body interval mask sel) rfl
    obtain ⟨hframe, heq⟩ := setBeacon_spec (s.taken o rest) (min 10000 (max 10 interval.toNat)) mask sel
    refine ⟨_, t, hexec, hfollows, hframe, ?_⟩
    have hholds : (s.taken o rest).holdsMasked mask = true ↔ ∃ i : LaneId, s.holding[i] &&& mask ≠ 0#9 :=
      holdsMasked_eq_true_iff (s.taken o rest) mask
    dsimp only
    rw [heq]
    obtain ⟨v, hv⟩ : ∃ v : State, v = { s.taken o rest with
      interval := min 10000 (max 10 interval.toNat), noticeMask := mask, selection := sel } := ⟨_, rfl⟩
    have hdue : v.beaconDue = s.beaconDue := by rw [hv]; rfl
    have htimer : v.intervalTimer = s.intervalTimer := by rw [hv]; rfl
    have hrequest : v.earlyRequest = s.earlyRequest := by rw [hv]; rfl
    have hspacing : v.spacingTimer = s.spacingTimer := by rw [hv]; rfl
    rw [← hv]
    have hspec := requestEarly_spec v
    rw [hdue, htimer, hspacing] at hspec
    by_cases hasks : ∃ i : LaneId, s.holding[i] &&& mask ≠ 0#9
    · rw [if_pos (hholds.2 hasks)]
      by_cases hno : s.beaconDue = false
      · rw [if_pos ⟨hno, hasks⟩]
        rwa [if_pos hno] at hspec
      · rw [if_neg fun h => hno h.1]
        rw [if_neg hno] at hspec
        rw [hspec]
        exact ⟨hdue, htimer, hrequest⟩
    · rw [if_neg (mt hholds.1 hasks), if_neg fun h => hasks h.2]
      exact ⟨hdue, htimer, hrequest⟩

/-! ### RESUME (R47) -/

theorem parseResume_body (i : LaneId) : parseResume [laneByte i] = .ok i := by
  show (match laneOfByte (laneByte i) with | none => _ | some i => _) = _
  rw [laneOfByte_laneByte]

theorem checkResume_of_error {s : State} {o : Order} (rest : List Order) {c : RefusalCode} (hstart : s.startup = false)
    (h : parseResume o.body = .error c) : checkResume (s.taken o rest) o = .error c := by
  have : (s.taken o rest).startup = false := hstart
  rw [checkResume, notInStartup, this, h]; rfl

theorem checkResume_body {s : State} {o : Order} (rest : List Order) {i : LaneId} (hstart : s.startup = false)
    (hbody : o.body = [laneByte i]) : checkResume (s.taken o rest) o =
      if (s.lane i).state = .stalled then .ok i else .error .laneState := by
  have : (s.taken o rest).startup = false := hstart
  rw [checkResume, notInStartup, this, hbody, parseResume_body]; rfl

/-- A RESUME's action that replaces its lane. -/
theorem actResume_of_withLane {s : State} {i : LaneId} {l : Lane} (h : s.resumeLane i = s.withLane i l) :
    actResume i s = (s.withLane i l, .okResume l.state) := by
  rw [actResume, h, withLane_lane_self]

theorem boundElsewhere_eq_true_iff {s : State} {i : LaneId} {id : List Byte} :
    s.boundElsewhere i id = true ↔ ∃ j, j ≠ i ∧ (s.lane j).state = .bound ∧ (s.lane j).identity = some id := by
  simp [State.boundElsewhere, mem_laneIds]

/-- A HELLO's or a RESUME's identity that another BOUND lane has: the lane is HELD (R35). -/
theorem bindOrHold_of_bound {s : State} {i : LaneId} {id : List Byte} (h : s.boundElsewhere i id = true) :
    s.bindOrHold i id = (s.withLane i ((s.lane i).hold id)).recordEvent i .held := if_pos h

/-- An identity no other BOUND lane has: the lane is BOUND (R35). -/
theorem bindOrHold_of_free {s : State} {i : LaneId} {id : List Byte} (h : s.boundElsewhere i id = false) :
    s.bindOrHold i id = (s.withLane i ((s.lane i).bind id)).recordEvent i
      (if (s.lane i).identity.isNone then .bound else .rebound) := if_neg (Bool.eq_false_iff.1 h)

theorem resumeLane_of_bound {s : State} {i : LaneId} {id : List Byte} (hresume : (s.lane i).resume = some .bound)
    (hid : (s.lane i).identity = some id) : s.resumeLane i =
      if s.boundElsewhere i id then s.bindOrHold i id
      else s.withLane i { s.lane i with state := .bound, resume := none } := by
  rw [State.resumeLane, hresume, hid]; rfl

/-- Settles O28, by the resume state. -/
theorem resumeReturnsByResumeState : Obligations.ResumeReturnsByResumeState := by
  intro s o rest hready hkind
  have hmine : o.isKind .resume = true := isKind_of_kind hkind
  refine ⟨fun hstart => ?_, fun hstart hlen => ?_, fun hstart hlen hbad => ?_, fun i hbody hstart => ?_⟩
  · exact serves_resume.refused hready hmine (if_pos hstart)
  · exact serves_resume.refused hready hmine (checkResume_of_error rest hstart (if_pos hlen))
  · refine serves_resume.refused hready hmine (checkResume_of_error rest hstart ?_)
    rw [parseResume, if_neg (not_not.2 hlen), (laneOfByte_eq_none_iff _).2 hbad]
  · have hcheck := checkResume_body rest hstart hbody
    refine ⟨fun hne => ?_, fun hstalled hresume => ?_, fun hstalled hresume => ?_,
      fun id hid hstalled hresume => ⟨fun hfree => ?_, fun ⟨j, hne, hbound, hsame⟩ => ?_⟩⟩
    · exact serves_resume.refused hready hmine (hcheck.trans (if_neg hne))
    all_goals rw [if_pos hstalled] at hcheck
    all_goals have hresume' : ((s.taken o rest).lane i).resume = _ := hresume
    · exact serves_resume.withLane hready hmine hcheck (actResume_of_withLane (by rw [State.resumeLane, hresume']; rfl))
    · exact serves_resume.withLane hready hmine hcheck (actResume_of_withLane (by rw [State.resumeLane, hresume']; rfl))
    · have hno : (s.taken o rest).boundElsewhere i id = false := boundElsewhere_eq_false_iff.2 hfree
      have hback := resumeLane_of_bound (s := s.taken o rest) hresume hid
      rw [if_neg (Bool.eq_false_iff.1 hno)] at hback
      exact serves_resume.withLane hready hmine hcheck (actResume_of_withLane hback)
    · have hyes : (s.taken o rest).boundElsewhere i id = true := boundElsewhere_eq_true_iff.2 ⟨j, hne, hbound, hsame⟩
      have hheld := resumeLane_of_bound (s := s.taken o rest) hresume hid
      rw [if_pos hyes, bindOrHold_of_bound hyes] at hheld
      have hlane : ((s.taken o rest).lane i).hold id =
          { s.lane i with
            state := .held, resume := none, announce := .stopped
            board :=
              { (s.lane i).board with
                verdict := .fail, latch := true
                firstFailure := (s.lane i).board.firstFailure.or (some .duplicateIdentity) } } := by
        unfold Lane.hold
        rw [← hid]; rfl
      rw [hlane] at hheld
      have hact : actResume i (s.taken o rest) = ((s.taken o rest).resumeLane i, .okResume .held) := by
        rw [actResume, hheld, recordEvent_lane, withLane_lane_self]
      rw [hheld] at hact
      obtain ⟨hframe, hevents⟩ := withLane_recordEvent (s.taken o rest) i i
        { s.lane i with
          state := .held, resume := none, announce := .stopped
          board :=
            { (s.lane i).board with
              verdict := .fail, latch := true
              firstFailure := (s.lane i).board.firstFailure.or (some .duplicateIdentity) } } .held
      obtain ⟨t, hexec, hfollows⟩ := serves_resume.answerFollows hready hmine hcheck hact
      exact ⟨_, t, hexec, hfollows, hframe, hevents⟩

/-! ### START (R176) -/

/-- From one state to another only lanes and the beacon's events changed. -/
def SeatsLanes (s t : State) : Prop :=
  t = { s with
    lanes := t.lanes, holding := t.holding, beaconDue := t.beaconDue, intervalTimer := t.intervalTimer
    earlyRequest := t.earlyRequest }

theorem SeatsLanes.trans {s t u : State} (h : SeatsLanes s t) (g : SeatsLanes t u) : SeatsLanes s u := by
  unfold SeatsLanes at *
  rw [g, h]

/-- A lane that is OFF after START (R176). -/
def startedLane (l : Lane) : Lane :=
  if l.settings.enabled = false then l
  else if l.seat then seatedLane l
  else { huntingAfresh l with state := .empty }

/-- The event of a lane that START takes out of OFF. -/
def startEvents (s : State) (l : List LaneId) : List (LaneId × EventKind) :=
  (l.filter fun i => (s.lane i).settings.enabled && (s.lane i).seat).map fun i => (i, .seated)

/-- One lane's part in START (R176). -/
theorem startLane_spec {s : State} {i : LaneId} (hoff : (s.lane i).state = .off) :
    SeatsLanes s (State.startLane s i)
      ∧ (∀ j, (State.startLane s i).lane j = if j = i then startedLane (s.lane i) else s.lane j)
      ∧ EventsRecorded s (State.startLane s i) (startEvents s [i]) := by
  have hevents (level : Bool) (h : ((s.lane i).settings.enabled && (s.lane i).seat) = level) :
      startEvents s [i] = if level then [(i, .seated)] else [] := by
    simp only [startEvents, List.filter_cons, h]
    cases level <;> rfl
  unfold State.startLane startedLane
  cases henabled : (s.lane i).settings.enabled
  · rw [if_neg (by simp), hevents false (by rw [henabled]; rfl)]
    refine ⟨rfl, fun j => ?_, .refl s⟩
    split <;> simp_all
  · rw [if_pos ⟨rfl, hoff⟩, leaveOff_eq]
    cases hseat : (s.lane i).seat
    · rw [if_neg Bool.false_ne_true, hevents false (by rw [henabled, hseat]; rfl)]
      exact ⟨rfl, fun j => s.lane_updLane i j fun l => { huntingAfresh l with state := .empty }, EventsRecorded.refl s⟩
    · rw [if_pos rfl, hevents true (by rw [henabled, hseat]; rfl)]
      obtain ⟨hframe, hrecorded⟩ := withLane_recordEvent s i i (seatedLane (s.lane i)) .seated
      refine ⟨by unfold SeatsLanes; rw [hframe]; rfl, fun j => ?_, hrecorded⟩
      rw [recordEvent_lane]
      exact s.lane_updLane i j seatedLane

/-- START's lanes in order, each as it stood (R176). -/
theorem foldl_startLane (l : List LaneId) (hl : l.Nodup) (s : State) (hoff : ∀ i ∈ l, (s.lane i).state = .off) :
    SeatsLanes s (l.foldl State.startLane s)
      ∧ (∀ j, (l.foldl State.startLane s).lane j = if j ∈ l then startedLane (s.lane j) else s.lane j)
      ∧ EventsRecorded s (l.foldl State.startLane s) (startEvents s l) := by
  induction l generalizing s with
  | nil => exact ⟨rfl, fun j => by simp, .refl s⟩
  | cons i l ih =>
    rw [List.nodup_cons] at hl
    obtain ⟨hframe, hlane, hevents⟩ := startLane_spec (hoff i List.mem_cons_self)
    have hkept {j : LaneId} (hj : j ∈ l) : (State.startLane s i).lane j = s.lane j := by
      rw [hlane, if_neg]
      rintro rfl
      exact hl.1 hj
    obtain ⟨hframe', hlane', hevents'⟩ := ih hl.2 (State.startLane s i) fun j hj => by
      rw [hkept hj]; exact hoff j (List.mem_cons_of_mem i hj)
    have hsame : startEvents (State.startLane s i) l = startEvents s l := by
      unfold startEvents
      rw [List.filter_congr fun j hj => by rw [hkept hj]]
    rw [hsame] at hevents'
    refine ⟨hframe.trans hframe', fun j => ?_, ?_⟩
    · rw [List.foldl_cons, hlane']
      by_cases hj : j ∈ l
      · simp [hj, hkept hj]
      · by_cases hji : j = i
        · subst hji; simp [hj, hlane]
        · simp [hj, hji, hlane]
    · have happend : startEvents s (i :: l) = startEvents s [i] ++ startEvents s l := by
        simp only [startEvents, ← List.map_append, ← List.filter_append, List.singleton_append]
      rw [happend]
      exact hevents.trans hevents' (by rw [hframe]) (by rw [hframe])

/-- Settles O29. -/
theorem startTakesLanesOutOfOff : Obligations.StartTakesLanesOutOfOff := by
  intro s o rest hready hkind
  have hmine : o.isKind .start = true := isKind_of_kind hkind
  have hparse (hbody : o.body = []) : parseEmpty o.body = .ok () := by rw [hbody]; rfl
  refine ⟨fun hbody => ?_, fun hbody hstart => ?_, fun hbody hstart hoff => ?_⟩
  · exact serves_start.refused hready hmine (if_pos (by simpa using hbody))
  · have hact : actStart () (s.taken o rest) =
        (s.taken o rest, .okStart (laneIds.map fun i => (s.lane i).state)) := by
      have hnone : (s.taken o rest).startAll = s.taken o rest := if_neg (Bool.eq_false_iff.1 hstart)
      rw [actStart, hnone]; rfl
    rw [serves_start.finished hready hmine (hparse hbody) hact rfl]
    obtain ⟨-, -, hcurrent, hreserved, -⟩ := hready
    simp only [State.finished, State.taken, State.answered, hcurrent, hreserved]
    rfl
  · have hall : (s.taken o rest).startAll = laneIds.foldl State.startLane { s.taken o rest with startup := false } :=
      if_pos hstart
    obtain ⟨hframe, hlane, hevents⟩ := foldl_startLane laneIds nodup_laneIds { s.taken o rest with startup := false }
      fun i _ => hoff i
    rw [← hall] at hframe hlane hevents
    obtain ⟨t, hexec, hfollows⟩ := serves_start.answerFollows (u := (s.taken o rest).startAll) hready hmine
      (hparse hbody) rfl
    exact ⟨_, t, hexec, hfollows, hframe, fun i => (hlane i).trans (if_pos (mem_laneIds i)), hevents⟩

end Sys2Proof
end

section
/-! PROOFS of the statements about LOAD (R52, R96 to R98, R182, R201). -/

namespace Sys2Proof

open Sys2Proof.Machine

/-! ### The checks of a LOAD body -/

theorem tableOfByte_eq_none_iff (b : Byte) : tableOfByte b = none ↔ b.toNat < 1 ∨ 4 < b.toNat := by
  unfold tableOfByte
  split_ifs with h1 h2 h3 h4
  · simp [h1]
  · simp [h2]
  · simp [h3]
  · simp [h4]
  · simp only [true_iff]; bv_omega

theorem byteAt_zero_of_head {b : List Byte} {c : Byte} (h : b.head? = some c) : byteAt b 0 = c := by
  obtain ⟨more, rfl⟩ := List.head?_eq_some_iff.1 h
  rfl

theorem tableOfByte_of_head {b : List Byte} {t : Table} (h : b.head? = some t.code) :
    tableOfByte (byteAt b 0) = some t := by
  rw [byteAt_zero_of_head h]
  cases t <;> decide

theorem parseLoad_of_length_ne {b : List Byte} {t : Table} (hhead : b.head? = some t.code)
    (h : b.length ≠ 3 + t.imageSize * (byteAt b 2).toNat) : parseLoad b = .error .badOrder := by
  unfold parseLoad
  split_ifs with hshort
  · rfl
  · rw [tableOfByte_of_head hhead]
    exact if_pos (by rwa [Nat.mul_comm])

theorem parseLoad_of_length {b : List Byte} {t : Table} (hhead : b.head? = some t.code)
    (h : b.length = 3 + t.imageSize * (byteAt b 2).toNat) : parseLoad b =
      if t.loadable = false ∨ (byteAt b 2).toNat = 0 ∨ t.largest < (byteAt b 2).toNat then .error .badValue
      else if (byteAt b 1).toNat < t.first ∨ t.last < (byteAt b 1).toNat + (byteAt b 2).toNat - 1
          ∨ (t = .group ∧ (byteAt b 1).toNat = 0) then .error .bounds
      else .ok { table := t, start := byteAt b 1, count := byteAt b 2, images := b.drop 3 } := by
  unfold parseLoad
  rw [if_neg (by omega), tableOfByte_of_head hhead]
  exact if_neg (not_not.2 (by rwa [Nat.mul_comm]))

theorem parseLoad_of_unknown {b : List Byte} (hlen : 3 ≤ b.length)
    (h : (byteAt b 0).toNat < 1 ∨ 4 < (byteAt b 0).toNat) :
    parseLoad b = .error .badValue := by
  unfold parseLoad
  rw [if_neg (by omega), (tableOfByte_eq_none_iff _).2 h]

theorem image_eq_imageAt (a : TableArgs) (k : Nat) : a.image k = imageAt a.table.imageSize k a.images := by
  rw [TableArgs.image, imageAt, Nat.mul_comm]

theorem covers_eq_true_iff (a : TableArgs) (n : Nat) :
    a.covers n = true ↔ a.start.toNat ≤ n ∧ n < a.start.toNat + a.count.toNat := by
  simp [TableArgs.covers]

/-! ### LOAD of GROUP (R52) -/

theorem halfAt_imageAt (k : Nat) (images : List Byte) : halfAt (imageAt 2 k images) 0 = halfAt images (2 * k) := by
  rw [halfAt, halfAt, byteAt_imageAt images (by decide), byteAt_imageAt images (by decide)]
  rfl

theorem loadGroups_group (s : State) (a : TableArgs) (g : Fin 31) : (s.loadGroups a).groups[g] =
    if a.covers (g.val + 1) then halfAt (a.image (g.val + 1 - a.start.toNat)) 0 else s.groups[g] := by
  simp [State.loadGroups]

theorem loadGroups_frame (s : State) (a : TableArgs) : s.loadGroups a = { s with groups := (s.loadGroups a).groups } :=
  by unfold State.loadGroups; rfl

/-- Settles O25, check by check. -/
theorem loadGroupWritesLaneSets : Obligations.LoadGroupWritesLaneSets := by
  intro s o rest hready hkind hhead
  have hmine : (o.isKind .load && o.names .group) = true := by
    rw [isKind_of_kind (k := .load) hkind, (names_eq_true_iff .group).2 hhead]; rfl
  refine ⟨fun hlen => ?_, fun start count images hbody hlen => ?_⟩
  · exact serves_loadGroup.refused hready hmine (parseLoad_of_length_ne (t := .group) hhead hlen)
  · have hwhole : o.body.length = 3 + Table.group.imageSize * (byteAt o.body 2).toNat := by
      rw [hbody]
      simp only [List.length_cons, hlen]
      exact Nat.add_comm _ 3
    have hparse := parseLoad_of_length (t := .group) hhead hwhole
    rw [hbody] at hparse
    have hparse' : parseLoad o.body =
        if Table.group.loadable = false ∨ count.toNat = 0 ∨ 32 < count.toNat then .error .badValue
        else if start.toNat < 0 ∨ 31 < start.toNat + count.toNat - 1 ∨ (Table.group = .group ∧ start.toNat = 0) then
          .error .bounds
        else .ok { table := .group, start := start, count := count, images := images } := by
      rw [hbody]; exact hparse
    refine ⟨fun hcount => ?_, fun hpos hmost hrange => ?_, fun hpos hstart hrange => ?_⟩
    · exact serves_loadGroup.refused hready hmine (hparse'.trans (if_pos (.inr (by omega))))
    · rw [if_neg (by simp [Table.loadable]; omega)] at hparse'
      refine serves_loadGroup.refused hready hmine (hparse'.trans (if_pos (.inr ?_)))
      obtain h | h := hrange
      · exact .inr ⟨rfl, h⟩
      · exact .inl (by omega)
    · rw [if_neg (by simp [Table.loadable]; omega), if_neg (by simp; omega)] at hparse'
      have hact : actLoadGroup { table := .group, start := start, count := count, images := images } (s.taken o rest) =
          ((s.taken o rest).loadGroups { table := .group, start := start, count := count, images := images },
            .okLoad .group start count) := rfl
      have hgroup := loadGroups_group (s.taken o rest)
        { table := .group, start := start, count := count, images := images }
      rw [loadGroups_frame] at hact
      generalize ((s.taken o rest).loadGroups _).groups = groups at hact hgroup
      refine ⟨_, serves_loadGroup.finished hready hmine hparse' hact rfl, ?_, fun g => (hgroup g).trans ?_⟩
      · obtain ⟨-, -, hcurrent, hreserved, -⟩ := hready
        simp only [State.finished, State.taken, State.answered, hcurrent, hreserved]
      · simp only [covers_eq_true_iff, image_eq_imageAt]
        rw [show Table.group.imageSize = 2 from rfl, halfAt_imageAt]
        rfl

/-! ### LOAD of LIMIT (R96, R97, R201) -/

theorem setWidth_append_ushiftRight {m n : Nat} (x : BitVec m) (y : BitVec n) : ((x ++ y) >>> n).setWidth m = x := by
  ext k hk
  simp [BitVec.getLsbD_append, BitVec.getLsbD_eq_getElem hk]

theorem le16_half (lo hi : Byte) : le16 (half lo hi) = [lo, hi] :=
  congrArg₂ (fun a b => [a, b]) BitVec.setWidth_append_eq_right (setWidth_append_ushiftRight hi lo)

theorem le32_quadAt (b : List Byte) (k : Nat) :
    le32 (quadAt b k) = [byteAt b k, byteAt b (k + 1), byteAt b (k + 2), byteAt b (k + 3)] := by
  have hlow : (quadAt b k).setWidth 16 = halfAt b k := BitVec.setWidth_append_eq_right
  have hhigh : (quadAt b k >>> 16).setWidth 16 = halfAt b (k + 2) := setWidth_append_ushiftRight _ _
  rw [le32_eq_append, hlow, hhigh, halfAt, halfAt, le16_half, le16_half]
  rfl

/-- A stored entry reads as its image with the reserved byte 00h (R100). -/
theorem limitBytes_limitOfBytes {b : List Byte} (hlen : b.length = 22)
    (hflag : byteAt b 0 = 0x00#8 ∨ byteAt b 0 = 0x01#8) : limitBytes (limitOfBytes b) = b.set 7 0x00#8 := by
  have hbytes : b = (List.range 22).map (byteAt b) := by
    refine List.ext_getElem (by simpa using hlen) fun k hk _ => ?_
    simp [byteAt, hk]
  have hset : b.set 7 0x00#8 = ((List.range 22).map (byteAt b)).set 7 0x00#8 := by rw [← hbytes]
  have hvalid : levelByte (byteAt b 0 == 0x01#8) = byteAt b 0 := by
    obtain h | h := hflag <;> rw [h] <;> rfl
  rw [hset, limitBytes, limitOfBytes]
  simp only [hvalid, le32_quadAt, halfAt, le16_half]
  rfl

theorem kind?_isSome_iff (e : LimitEntry) : e.kind?.isSome = true ↔ e.kind.toNat ≤ 3 := by
  unfold LimitEntry.kind?
  split_ifs with h0 h1 h2 h3
  · simp [h0]
  · simp [h1]
  · simp [h2]
  · simp [h3]
  · simp only [Option.isSome_none, Bool.false_eq_true, false_iff]; bv_omega

theorem bounded_iff (e : LimitEntry) : e.bounded = true ↔ e.kind.toNat ≤ 1 := by
  unfold LimitEntry.bounded LimitEntry.kind?
  split_ifs with h0 h1 h2 h3
  · simp [h0]
  · simp [h1]
  · simp [h2]
  · simp [h3]
  · simp only [reduceCtorEq, beq_iff_eq, Bool.or_eq_true, or_self, false_iff]; bv_omega

/-- The validation of a limit image, as the statements say it (R97, R201). -/
theorem limitImagePasses_iff (b : List Byte) : limitImagePasses b = true ↔ LimitImageOk b := by
  have hsound : (limitOfBytes b).sound = true ↔ 1 ≤ (byteAt b 1).toNat ∧ (byteAt b 1).toNat ≤ 63
      ∧ (byteAt b 3).toNat ≤ 7 ∧ (byteAt b 4).toNat ≤ 3 ∧ (byteAt b 5).toNat ≤ 1 ∧ -12 ≤ (byteAt b 6).toInt
      ∧ (byteAt b 6).toInt ≤ 12 ∧ (quadAt b 16).toNat ≤ 2147483647
      ∧ ((byteAt b 4).toNat ≤ 1 →
          (quadAt b 8).toInt ≤ (quadAt b 12).toInt
            ∧ 2 * ((quadAt b 16).toNat : Int) ≤ (quadAt b 12).toInt - (quadAt b 8).toInt) := by
    have hbounded : (limitOfBytes b).bounded = false ↔ ¬(byteAt b 4).toNat ≤ 1 := by
      rw [← Bool.not_eq_true]
      exact not_congr (bounded_iff (limitOfBytes b))
    simp only [LimitEntry.sound, Bool.and_eq_true, Bool.or_eq_true, Bool.not_eq_true', decide_eq_true_eq,
      kind?_isSome_iff, hbounded]
    simp only [limitOfBytes]
    tauto
  simp only [limitImagePasses, LimitImageOk, Bool.or_eq_true, Bool.and_eq_true, beq_iff_eq, hsound]

/-- The fields of a LOAD of LIMIT. -/
def limitArgs (start count : Byte) (images : List Byte) : TableArgs :=
  { table := .limit, start := start, count := count, images := images }

theorem limitArgs_image (start count : Byte) (images : List Byte) (k : Nat) :
    (limitArgs start count images).image k = imageAt 22 k images := image_eq_imageAt _ k

theorem failing_eq_nil {start count : Byte} {images : List Byte}
    (h : ∀ k, k < count.toNat → LimitImageOk (imageAt 22 k images)) : (limitArgs start count images).failing = [] := by
  refine List.filter_eq_nil_iff.2 fun k hk => ?_
  rw [limitArgs_image, (limitImagePasses_iff _).2 (h k (List.mem_range.1 hk))]
  decide

/-- The first position that a predicate singles out heads the filtered positions. -/
theorem filter_range_eq_cons {p : Nat → Bool} {n k : Nat} (hk : k < n) (hp : p k = true)
    (hbefore : ∀ j, j < k → p j = false) : ∃ more, (List.range n).filter p = k :: more := by
  obtain ⟨m, rfl⟩ : ∃ m, n = k + (m + 1) := ⟨n - k - 1, by omega⟩
  have hnone : (List.range k).filter p = [] := List.filter_eq_nil_iff.2 fun j hj => by
    simp [hbefore j (List.mem_range.1 hj)]
  rw [List.range_add, List.filter_append, hnone, List.nil_append, List.range_succ_eq_map, List.map_cons, Nat.add_zero,
    List.filter_cons_of_pos hp]
  exact ⟨_, rfl⟩

theorem failing_eq_cons {start count : Byte} {images : List Byte} {k : Nat} (hk : k < count.toNat)
    (hbad : ¬LimitImageOk (imageAt 22 k images)) (hbefore : ∀ j, j < k → LimitImageOk (imageAt 22 j images)) :
    ∃ more, (limitArgs start count images).failing = k :: more := by
  refine filter_range_eq_cons hk ?_ fun j hj => ?_
  · rw [limitArgs_image, Bool.eq_false_iff.2 (mt (limitImagePasses_iff _).1 hbad)]; rfl
  · rw [limitArgs_image, (limitImagePasses_iff _).2 (hbefore j hj)]; rfl

theorem checkLoadLimit_of_error {s : State} {o : Order} {c : RefusalCode} (h : parseLoad o.body = .error c) :
    checkLoadLimit s o = .error c := by rw [checkLoadLimit, h]

theorem loadLimits_limit (s : State) (a : TableArgs) (n : LimitId) : (s.loadLimits a).limits[n] =
    if a.covers n.val then limitOfBytes (a.image (n.val - a.start.toNat)) else s.limits[n] := by
  simp [State.loadLimits]

theorem loadLimits_frame (s : State) (a : TableArgs) : s.loadLimits a = { s with limits := (s.loadLimits a).limits } :=
  by unfold State.loadLimits; rfl

/-- The checks of a LOAD of LIMIT whose body is the header and its images (R182). -/
theorem parseLoad_limit {start count : Byte} {images : List Byte} (hpos : 1 ≤ count.toNat) (hmost : count.toNat ≤ 64)
    (hlen : images.length = 22 * count.toNat) : parseLoad (0x01#8 :: start :: count :: images) =
      if 256 < start.toNat + count.toNat then .error .bounds else .ok (limitArgs start count images) := by
  have hwhole : (0x01#8 :: start :: count :: images).length = 3 + Table.limit.imageSize *
      (byteAt (0x01#8 :: start :: count :: images) 2).toNat := by
    simp only [List.length_cons, hlen]
    exact Nat.add_comm _ 3
  have hparse : parseLoad (0x01#8 :: start :: count :: images) =
      if Table.limit.loadable = false ∨ count.toNat = 0 ∨ 64 < count.toNat then .error .badValue
      else if start.toNat < 0 ∨ 255 < start.toNat + count.toNat - 1 ∨ (Table.limit = .group ∧ start.toNat = 0) then
        .error .bounds
      else .ok (limitArgs start count images) := parseLoad_of_length (t := .limit) rfl hwhole
  rw [hparse, if_neg (by simp [Table.loadable]; omega)]
  have hsame : (start.toNat < 0 ∨ 255 < start.toNat + count.toNat - 1 ∨ (Table.limit = .group ∧ start.toNat = 0)) ↔
      256 < start.toNat + count.toNat := by simp; omega
  simp only [hsame]

theorem imageAt_length {size k n : Nat} {images : List Byte} (hlen : images.length = size * n) (hk : k < n) :
    (imageAt size k images).length = size := by
  have hle : size * (k + 1) ≤ size * n := Nat.mul_le_mul_left size hk
  rw [Nat.mul_succ] at hle
  rw [imageAt, List.length_take, List.length_drop]
  omega

theorem loadsLimit {o : Order} (hkind : o.kind = 0x09#8) (hhead : o.body.head? ≠ some 0x02#8) :
    (o.isKind .load && !o.names .group) = true := by
  rw [isKind_of_kind (k := .load) hkind, (names_eq_false_iff .group).2 hhead]; rfl

theorem readsLimit {o : Order} (hkind : o.kind = 0x0A#8) (h2 : o.body.head? ≠ some 0x02#8)
    (h3 : o.body.head? ≠ some 0x03#8) (h4 : o.body.head? ≠ some 0x04#8) :
    (o.isKind .read && !o.names .group && !o.names .roster && !o.names .board) = true := by
  rw [isKind_of_kind (k := .read) hkind, (names_eq_false_iff .group).2 h2, (names_eq_false_iff .roster).2 h3,
    (names_eq_false_iff .board).2 h4]; rfl

/-- Settles O24, check by check. -/
theorem loadLimitWritesAllOrNone : Obligations.LoadLimitWritesAllOrNone := by
  intro s o rest hready hkinds
  have hunnamed {c : Byte} (hbad : (byteAt o.body 0).toNat < 1 ∨ 4 < (byteAt o.body 0).toNat) (hc : 1 ≤ c.toNat)
      (hc' : c.toNat ≤ 4) : o.body.head? ≠ some c := fun h => by
    rw [byteAt_zero_of_head h] at hbad
    omega
  refine ⟨fun hbody => ?_, fun hkind hlen hbad => ?_, fun hkind size hsize => ?_, fun hkind hlen hbad => ?_,
    fun start count images hkind hbody hpos hmost hlen => ?_⟩
  · have hhead (c : Byte) : o.body.head? ≠ some c := by simp [hbody]
    obtain hkind | hkind := hkinds
    · have hcommand : commandFor 0#4 o = .loadLimit := by rw [commandFor, hkind, hbody]; rfl
      rw [hcommand]
      exact serves_loadLimit.refused hready (loadsLimit hkind (hhead _)) (checkLoadLimit_of_error (by rw [hbody]; rfl))
    · have hcommand : commandFor 0#4 o = .readLimit := by rw [commandFor, hkind, hbody]; rfl
      rw [hcommand]
      exact serves_readLimit.refused hready (readsLimit hkind (hhead _) (hhead _) (hhead _)) (by rw [hbody]; rfl)
  · refine serves_readLimit.refused hready (readsLimit hkind ?_ ?_ ?_) ?_
    · exact hunnamed hbad (by decide) (by decide)
    · exact hunnamed hbad (by decide) (by decide)
    · exact hunnamed hbad (by decide) (by decide)
    · rw [parseRead, if_neg (not_not.2 hlen), (tableOfByte_eq_none_iff _).2 hbad]
  · obtain ⟨t, hhead, hgroup, rfl⟩ : ∃ t : Table, o.body.head? = some t.code ∧ t ≠ .group ∧ size = t.imageSize := by
      obtain ⟨h, rfl⟩ | ⟨h, rfl⟩ | ⟨h, rfl⟩ := hsize
      · exact ⟨.limit, h, by decide, rfl⟩
      · exact ⟨.roster, h, by decide, rfl⟩
      · exact ⟨.board, h, by decide, rfl⟩
    have hmine : (o.isKind .load && !o.names .group) = true := loadsLimit hkind (by
      rw [hhead]; cases t <;> simp_all [Table.code])
    refine ⟨fun hlen => ?_, fun hlen hbad => ?_⟩
    · exact serves_loadLimit.refused hready hmine (checkLoadLimit_of_error (parseLoad_of_length_ne hhead hlen))
    · refine serves_loadLimit.refused hready hmine (checkLoadLimit_of_error
        ((parseLoad_of_length hhead hlen).trans (if_pos ?_)))
      rw [byteAt_zero_of_head hhead] at hbad
      cases t with
      | limit =>
        obtain h | h | h := hbad
        · exact absurd rfl h
        · exact .inr (.inl (by rw [h]; rfl))
        · exact .inr (.inr h)
      | group => exact absurd rfl hgroup
      | roster => exact .inl rfl
      | board => exact .inl rfl
  · exact serves_loadLimit.refused hready (loadsLimit hkind (hunnamed hbad (by decide) (by decide)))
      (checkLoadLimit_of_error (parseLoad_of_unknown hlen hbad))
  · have hmine := loadsLimit hkind (by simp [hbody])
    have hparse := parseLoad_limit (start := start) hpos hmost hlen
    rw [← hbody] at hparse
    refine ⟨fun hover => ?_, fun hrange hall => ?_, fun k hrange hk hbad hbefore => ?_⟩
    · exact serves_loadLimit.refused hready hmine (checkLoadLimit_of_error (hparse.trans (if_pos hover)))
    all_goals rw [if_neg (by omega)] at hparse
    · have hcheck : checkLoadLimit (s.taken o rest) o = .ok (limitArgs start count images) := by
        rw [checkLoadLimit, hparse]
        simp only [failing_eq_nil hall]
      have hact : actLoadLimit (limitArgs start count images) (s.taken o rest) =
          ((s.taken o rest).loadLimits (limitArgs start count images), .okLoad .limit start count) := rfl
      have hlimit := loadLimits_limit (s.taken o rest) (limitArgs start count images)
      rw [loadLimits_frame] at hact
      generalize ((s.taken o rest).loadLimits _).limits = limits at hact hlimit
      refine ⟨_, serves_loadLimit.finished hready hmine hcheck hact rfl, ?_, fun n hout => (hlimit n).trans ?_,
        fun n hfirst hlast => ?_⟩
      · obtain ⟨-, -, hcurrent, hreserved, -⟩ := hready
        simp only [State.finished, State.taken, State.answered, hcurrent, hreserved]
      · rw [if_neg]
        · rfl
        · rw [covers_eq_true_iff]
          simp only [limitArgs]
          omega
      · have hentry : limits[n] = limitOfBytes (imageAt 22 (n.val - start.toNat) images) := by
          rw [hlimit n, if_pos ((covers_eq_true_iff _ _).2 ⟨hfirst, hlast⟩), limitArgs_image]
          rfl
        have hok := hall (n.val - start.toNat) (by omega)
        exact (congrArg limitBytes hentry).trans
          (limitBytes_limitOfBytes (imageAt_length hlen (by omega)) (hok.imp_right And.left))
    · obtain ⟨more, hfailing⟩ := failing_eq_cons (start := start) hk hbad hbefore
      refine serves_loadLimit.refused hready hmine ?_
      rw [checkLoadLimit, hparse]
      simp only [hfailing]
      rfl

end Sys2Proof
end

section
/-! PROOFS of the statements about HELLO, CLAIM, RELEASE and the expiry of a hold. -/

namespace Sys2Proof

open Sys2Proof.Machine

/-! ### A lane the dispatcher serves -/

theorem serving_lane_of_ne (s : State) {i j : LaneId} (l : Lane) (h : j ≠ i) : (s.serving i l).lane j = s.lane j :=
  s.lane_updLane_of_ne (fun _ => l) h

@[simp] theorem serving_withLane (s : State) (i : LaneId) (l l' : Lane) :
    (s.serving i l).withLane i l' = s.serving i l' := by
  simp [State.serving, State.withLane]

theorem isApp_of {f : RxFrame} {kind : Byte} (happ : f.framing = .app) (hkind : f.kind = kind) :
    f.isApp kind = true := by
  simp [RxFrame.isApp, happ, hkind]

/-! ### HELLO (R34 to R39) -/

theorem exec_hello_of_nextFrame {s : State} {i : LaneId} {f : RxFrame} {more : List RxFrame}
    (hnext : NextFrame s i f more) (happ : f.framing = .app) (hkind : f.kind = 0x10#8) :
    exec .hello s = .next (takeHello i f (s.serving i { s.lane i with rxBuffer := more })) := by
  rw [exec_hello_eq, execHello, dispatch_of_nextFrame hnext (isApp_of happ hkind), dispatched_eq_serving hnext]

theorem takeHello_of_app {s : State} {i : LaneId} {f : RxFrame} (hmode : (s.lane i).mode = .app) (hpos : f.payload ≠ [])
    (hlen : f.payload.length ≤ 24) : takeHello i f s = s.helloByState i f.payload := by
  have hbad : ¬(f.payload = [] ∨ 24 < f.payload.length) := by
    rintro (h | h)
    · exact hpos h
    · omega
  exact (if_neg (by rw [hmode]; decide)).trans (if_neg hbad)

/-- A HELLO on a lane that holds no other identity goes to the uniqueness check (R36, R39). -/
theorem helloByState_of_own {s : State} {i : LaneId} {id : List Byte}
    (hstate : (s.lane i).state = .seated ∨ (s.lane i).state = .stalled ∨ (s.lane i).state = .held)
    (hid : (s.lane i).identity = none ∨ (s.lane i).identity = some id) : s.helloByState i id = s.bindOrHold i id := by
  unfold State.helloByState
  obtain hstate | hstate | hstate := hstate <;> obtain hid | hid := hid <;> simp [hstate, hid]

theorem serving_boundElsewhere (s : State) (i : LaneId) (l : Lane) (id : List Byte) :
    (s.serving i l).boundElsewhere i id = true ↔
      ∃ j, j ≠ i ∧ (s.lane j).state = .bound ∧ (s.lane j).identity = some id := by
  rw [boundElsewhere_eq_true_iff]
  refine exists_congr fun j => and_congr_right fun hne => ?_
  rw [serving_lane_of_ne s l hne]

/-- A served lane replaced and an event recorded (R187). -/
theorem serving_recordEvent (s : State) (i : LaneId) (l : Lane) (k : EventKind) :
    (s.serving i l).recordEvent i k =
        { s.withLane i (((s.serving i l).recordEvent i k).lane i) with
          pointer := i, holding := ((s.serving i l).recordEvent i k).holding
          beaconDue := ((s.serving i l).recordEvent i k).beaconDue
          intervalTimer := ((s.serving i l).recordEvent i k).intervalTimer
          earlyRequest := ((s.serving i l).recordEvent i k).earlyRequest }
      ∧ ((s.serving i l).recordEvent i k).lane i = l
      ∧ EventsRecorded s ((s.serving i l).recordEvent i k) [(i, k)] := by
  have hlane : ((s.serving i l).recordEvent i k).lane i = l := by rw [recordEvent_lane, serving_lane_self]
  refine ⟨?_, hlane, recordEvent_recorded (s.serving i l) i k⟩
  rw [hlane]
  exact recordEvent_frame (s.serving i l) i k

/-- Settles O46: the checks of R34, then the uniqueness check. -/
theorem helloBindsOrHolds : Obligations.HelloBindsOrHolds := by
  intro s i f more l hnext happ hkind hl
  have hexec := exec_hello_of_nextFrame hnext happ hkind
  rw [← hl] at hexec
  refine ⟨fun hmode => ?_, fun hmode hbad => ?_, fun hmode hpos hlen hstate hid => ⟨_, hexec, ?_⟩⟩
  · rw [hexec, takeHello, if_pos (by rw [serving_lane_self]; exact hmode)]
    rfl
  · have hbadHello : takeHello i f (s.serving i l) = (s.serving i l).setFlag i .badHello :=
      (if_neg (by rw [serving_lane_self, hmode]; decide)).trans (if_pos hbad)
    rw [hexec, hbadHello, serving_setFlag]
    rfl
  · rw [takeHello_of_app (by rw [serving_lane_self]; exact hmode) hpos hlen,
      helloByState_of_own (by rw [serving_lane_self]; exact hstate) (by rw [serving_lane_self]; exact hid)]
    by_cases hdup : ∃ j, j ≠ i ∧ (s.lane j).state = .bound ∧ (s.lane j).identity = some f.payload
    · rw [if_pos hdup, bindOrHold_of_bound ((serving_boundElsewhere s i l _).2 hdup), serving_lane_self,
        serving_withLane]
      exact serving_recordEvent s i (l.hold f.payload) .held
    · rw [if_neg hdup, bindOrHold_of_free (Bool.eq_false_iff.2 (mt (serving_boundElsewhere s i l _).1 hdup)),
        serving_lane_self, serving_withLane]
      have hkindOf : (if l.identity.isNone then EventKind.bound else .rebound) =
          if l.identity = none then .bound else .rebound := by cases l.identity <;> rfl
      have hlane : l.bind f.payload =
          { l with
            state := .bound, identity := some f.payload, announce := .stopped, resume := none
            bindCount := if l.bindCount < 255 then l.bindCount + 1 else l.bindCount
            board :=
              if l.identity = none then
                { verdict := .none, passCount := 0, marginalCount := 0, failCount := 0
                  firstFailure := none, latch := l.board.latch }
              else l.board } := by
        unfold Lane.bind
        cases l.identity <;> rfl
      rw [hkindOf, hlane]
      exact serving_recordEvent s i _ _

/-! ### What a report changes (R155) -/

/-- From one state to another only urgent egress and the beacon's events changed. -/
def Reports (s t : State) : Prop :=
  t = { s with
    urgent := t.urgent, urgentDrops := t.urgentDrops, holding := t.holding, beaconDue := t.beaconDue
    intervalTimer := t.intervalTimer, earlyRequest := t.earlyRequest }

theorem Reports.trans {s t u : State} (h : Reports s t) (g : Reports t u) : Reports s u := by
  unfold Reports at *
  rw [g, h]

theorem Reports.withLane {s t : State} (h : Reports s t) (i : LaneId) (l : Lane) :
    Reports (s.withLane i l) (t.withLane i l) := by
  unfold Reports at *
  rw [h]; rfl

theorem Reports.withInstrument {s t : State} (h : Reports s t) (k : InstrumentId) (n : Instrument) :
    Reports (s.withInstrument k n) (t.withInstrument k n) := by
  unfold Reports at *
  rw [h]; rfl

theorem Reports.lane_eq {s t : State} (h : Reports s t) (i : LaneId) : t.lane i = s.lane i := by rw [h]; rfl

theorem Reports.instrument_eq {s t : State} (h : Reports s t) (k : InstrumentId) : t.instrument k = s.instrument k := by
  rw [h]; rfl

theorem offerUrgent_reports (s : State) (r : UrgentReport) : Reports s (s.offerUrgent r) := by
  rcases offerUrgent_cases s r with ⟨-, h⟩ | ⟨-, h⟩ <;> rw [h] <;> rfl

theorem recordEvent_reports (s : State) (i : LaneId) (k : EventKind) : Reports s (s.recordEvent i k) := by
  unfold Reports
  rw [recordEvent_frame]

theorem reportInstrument_reports (s : State) (k : InstrumentId) (e : InstrumentEvent) (i : LaneId) (n : Nat) :
    Reports s (s.reportInstrument k e i n) :=
  (offerUrgent_reports s _).trans (recordEvent_reports _ i .instrument)

/-- What a grant leaves but for its report and event (R145). -/
def withGrant (s : State) (k : InstrumentId) (i : LaneId) : State :=
  (s.withInstrument k (grantedTo (s.instrument k) i)).withLane i
    { s.lane i with control := some { kind := .grant, instrument := k } }

/-- A grant: the record, the GRANT frame, its report and its event (R145, R155). -/
theorem grant_spec (s : State) (k : InstrumentId) (i : LaneId) :
    Reports (withGrant s k i) (s.grant k i)
      ∧ EventsRecorded s (s.grant k i) [(i, .instrument)]
      ∧ UrgentOffered s (s.grant k i)
          [.instrument k .granted i (s.instrument k).holdLimit (removeLane (s.instrument k).waiting i)] := by
  have heq : s.grant k i = (withGrant s k i).reportInstrument k .granted i (s.instrument k).holdLimit := rfl
  have hself : (withGrant s k i).instrument k = grantedTo (s.instrument k) i :=
    withInstrument_instrument_self s k (grantedTo (s.instrument k) i)
  have hoffered := reportInstrument_offered (withGrant s k i) k .granted i (s.instrument k).holdLimit
  rw [hself] at hoffered
  rw [heq]
  exact ⟨reportInstrument_reports _ k .granted i _, reportInstrument_recorded (withGrant s k i) k .granted i _,
    hoffered⟩

/-! ### CLAIM (R142 to R145) -/

theorem exec_claim_eq : ∀ s : State, exec .claim s = execClaim s := by intros; rfl

theorem exec_claim_of_nextFrame {s : State} {i : LaneId} {f : RxFrame} {more : List RxFrame} {k : InstrumentId}
    (hnext : NextFrame s i f more) (happ : f.framing = .app) (hkind : f.kind = 0x13#8)
    (hpayload : f.payload = [instrumentByte k]) :
    exec .claim s = .next ((s.serving i { s.lane i with rxBuffer := more }).claim i k) := by
  have hnumber : instrumentOfByte (byteAt f.payload 0) = some k := by
    rw [hpayload]; exact instrumentOfByte_instrumentByte k
  rw [exec_claim_eq, execClaim, dispatch_of_nextFrame hnext (isApp_of happ hkind), dispatched_eq_serving hnext,
    takeClaim, hnumber]

theorem serving_instrument (s : State) (i : LaneId) (l : Lane) (k : InstrumentId) :
    (s.serving i l).instrument k = s.instrument k := rfl

/-- A CLAIM's checks in their order, its lane out of the revoked set (R142). -/
theorem claim_eq {s : State} {i : LaneId} {k : InstrumentId} {n : Instrument}
    (hn : n = { s.instrument k with revoked := removeLane (s.instrument k).revoked i }) :
    s.claim i k =
      if (s.lane i).state ≠ .bound ∨ n.enabled = false then (s.withInstrument k n).denyClaim i k
      else if n.holder = some i ∨ inSet n.waiting i = true then s.withInstrument k n
      else if n.holder = none then (s.withInstrument k n).grant k i
      else s.withInstrument k { n with waiting := addLane n.waiting i } := by
  have hset : (s.withInstrument k n).updInstrument k (fun m => { m with waiting := addLane m.waiting i }) =
      s.withInstrument k { n with waiting := addLane n.waiting i } := by
    rw [updInstrument_eq_withInstrument, withInstrument_instrument_self, withInstrument_withInstrument]
  rw [← hset, hn]
  rfl

theorem removeLane_removeLane_self (w : LaneSet) (i : LaneId) : removeLane (removeLane w i) i = removeLane w i :=
  removeLane_of_not_inSet (by simp [inSet_removeLane])

/-- Settles O51, by the branches of `claim_eq`. -/
theorem claimIsDeniedGrantedOrWaits : Obligations.ClaimIsDeniedGrantedOrWaits := by
  intro s i f more k l n hnext happ hkind hpayload hl hn
  have hexec := exec_claim_of_nextFrame hnext happ hkind hpayload
  rw [← hl, claim_eq (n := n) (by rw [serving_instrument]; exact hn), serving_lane_self] at hexec
  refine ⟨fun hdenied => ?_, fun hbound henabled hmine => ?_, fun hbound henabled hholder hwaiting hheld => ?_,
    fun hbound henabled hfree hwaiting => ?_⟩
  · rw [hexec, if_pos hdenied, State.denyClaim]
    have hlane : ((s.serving i l).withInstrument k n).lane i = l := serving_lane_self s i l
    rw [hlane]
    split_ifs with hstalled
    · rfl
    · rw [State.placeControl, updLane_eq_withLane, hlane]
      simp only [State.serving, State.withLane, State.withInstrument, Vector.set_set]
  all_goals
    rw [if_neg (by rw [hbound, henabled]; simp)] at hexec
  · rw [hexec, if_pos hmine]; rfl
  · rw [hexec, if_neg (by rw [hwaiting]; simpa using hholder), if_neg hheld]; rfl
  · rw [if_neg (by rw [hwaiting, hfree]; simp), if_pos hfree] at hexec
    obtain ⟨hreports, hevents, hurgent⟩ := grant_spec ((s.serving i l).withInstrument k n) k i
    have hgrant : withGrant ((s.serving i l).withInstrument k n) k i =
        { (s.withLane i { l with control := some { kind := .grant, instrument := k } }).withInstrument k
            { n with
              holder := some i, lastGranted := i, waiting := removeLane n.waiting i
              holdTimer := if n.holdLimit = 0 then none else some n.holdLimit } with
          pointer := i } := by
      have hlane : ((s.serving i l).withInstrument k n).lane i = l := serving_lane_self s i l
      have hrevoked : removeLane n.revoked i = n.revoked := by rw [hn]; exact removeLane_removeLane_self _ i
      rw [withGrant, withInstrument_instrument_self, withInstrument_withInstrument, hlane, grantedTo, hrevoked]
      simp only [State.serving, State.withLane, State.withInstrument, Vector.set_set]
    rw [hgrant] at hreports
    rw [withInstrument_instrument_self] at hurgent
    refine ⟨_, hexec, hreports, hevents, ?_⟩
    have hwait : n.waiting = (s.instrument k).waiting := by rw [hn]
    rw [← hwait]
    exact hurgent

/-! ### The end of a hold (R146 to R149, R156) -/

theorem exec_release_eq : ∀ s : State, exec .release s = execRelease s := by intros; rfl

theorem exec_holdExpiry_eq : ∀ (k : InstrumentId) (s : State), exec (.holdExpiry k) s = .next (s.holdOut k) := by
  intros; rfl

theorem exec_release_of_nextFrame {s : State} {i : LaneId} {f : RxFrame} {more : List RxFrame} {k : InstrumentId}
    (hnext : NextFrame s i f more) (happ : f.framing = .app) (hkind : f.kind = 0x14#8)
    (hpayload : f.payload = [instrumentByte k]) :
    exec .release s = .next ((s.serving i { s.lane i with rxBuffer := more }).release i k) := by
  have hnumber : instrumentOfByte (byteAt f.payload 0) = some k := by
    rw [hpayload]; exact instrumentOfByte_instrumentByte k
  rw [exec_release_eq, execRelease, dispatch_of_nextFrame hnext (isApp_of happ hkind), dispatched_eq_serving hnext,
    takeRelease, hnumber]

/-- A hold timer that has not run out (R156). -/
theorem holdExpiry_of_ne {s : State} {k : InstrumentId} (h : (s.instrument k).holdTimer ≠ some 0) :
    exec (.holdExpiry k) s = .next s := by
  rw [exec_holdExpiry_eq, State.holdOut]
  split
  · exact absurd ‹_› h
  · rfl

theorem Reports.withGrant {s t : State} (h : Reports s t) (k : InstrumentId) (i : LaneId) :
    Reports (withGrant s k i) (withGrant t k i) := by
  unfold Sys2Proof.withGrant
  rw [h.instrument_eq, h.lane_eq]
  exact (h.withInstrument k _).withLane i _

@[simp] theorem withGrant_instrument_self (s : State) (k : InstrumentId) (j : LaneId) :
    (withGrant s k j).instrument k = grantedTo (s.instrument k) j :=
  withInstrument_instrument_self s k (grantedTo (s.instrument k) j)

/-- The end of a hold is reported, and where no lane waits nothing else happens (R146, R155). -/
theorem report_chooseNext_none {w : State} {k : InstrumentId} (e : InstrumentEvent) (i : LaneId)
    (h : nextOf (w.instrument k) = none) :
    Reports w ((w.reportInstrument k e i 0).chooseNext k)
      ∧ EventsRecorded w ((w.reportInstrument k e i 0).chooseNext k) [(i, .instrument)]
      ∧ UrgentOffered w ((w.reportInstrument k e i 0).chooseNext k) [.instrument k e i 0 (w.instrument k).waiting] := by
  rcases chooseNext_cases (w.reportInstrument k e i 0) k with ⟨j, hnext, -⟩ | ⟨-, heq⟩
  · rw [reportInstrument_instrument] at hnext
    cases h.symm.trans hnext
  · rw [heq]
    exact ⟨reportInstrument_reports w k e i 0, reportInstrument_recorded w k e i 0, reportInstrument_offered w k e i 0⟩

/-- The end of a hold is reported, and the first waiter in rotation is granted the instrument (R146, R155). -/
theorem report_chooseNext_some {w : State} {k : InstrumentId} (e : InstrumentEvent) (i : LaneId) {j : LaneId}
    (h : nextOf (w.instrument k) = some j) :
    Reports (withGrant w k j) ((w.reportInstrument k e i 0).chooseNext k)
      ∧ EventsRecorded w ((w.reportInstrument k e i 0).chooseNext k) [(i, .instrument), (j, .instrument)]
      ∧ UrgentOffered w ((w.reportInstrument k e i 0).chooseNext k)
          [.instrument k e i 0 (w.instrument k).waiting,
            .instrument k .granted j (w.instrument k).holdLimit (removeLane (w.instrument k).waiting j)] := by
  have hreports := reportInstrument_reports w k e i 0
  have hframe := reportInstrument_frame w k e i 0
  rcases chooseNext_cases (w.reportInstrument k e i 0) k with ⟨j', hnext, heq⟩ | ⟨hnext, -⟩
  · rw [reportInstrument_instrument] at hnext
    obtain rfl : j = j' := Option.some.inj (h.symm.trans hnext)
    obtain ⟨hgrant, hevents, hurgent⟩ := grant_spec (w.reportInstrument k e i 0) k j
    rw [reportInstrument_instrument] at hurgent
    rw [heq]
    exact ⟨(hreports.withGrant k j).trans hgrant,
      (reportInstrument_recorded w k e i 0).trans hevents hframe.noticeMask_eq hframe.spacingTimer_eq,
      (reportInstrument_offered w k e i 0).trans hurgent hframe.answerReserved_eq⟩
  · rw [reportInstrument_instrument] at hnext
    cases h.symm.trans hnext

theorem grantedTo_holdTimer_ne (n : Instrument) (j : LaneId) : (grantedTo n j).holdTimer ≠ some 0 := by
  show (if n.holdLimit = 0 then none else some n.holdLimit) ≠ some 0
  split_ifs with h
  · simp
  · simpa using h

theorem Reports.arbiterFrame {s w t : State} (h : Reports w t) (hw : ArbiterFrame s w) : ArbiterFrame s t :=
  ArbiterFrame.trans hw (by unfold ArbiterFrame; rw [h])

/-- A RELEASE by the holder ends the hold and reports it (R147). -/
theorem release_of_holder {s : State} {i : LaneId} {k : InstrumentId} (h : (s.instrument k).holder = some i) :
    s.release i k =
      ((s.withInstrument k (s.instrument k).freed).reportInstrument k .released i 0).chooseNext k := if_pos h

/-- What a hold that reached its limit leaves but for its report and the next grant (R149). -/
def withRevoke (s : State) (k : InstrumentId) (i : LaneId) : State :=
  (s.withInstrument k { (s.instrument k).freed with revoked := addLane (s.instrument k).revoked i }).withLane i
    { flagged (s.lane i) .holdOver with control := some { kind := .revoke, instrument := k } }

theorem revokeHold_eq (s : State) (k : InstrumentId) (i : LaneId) :
    s.revokeHold k i = ((withRevoke s k i).reportInstrument k .revoked i 0).chooseNext k := by
  have hstate : ((s.updInstrument k fun n => { n.freed with revoked := addLane n.revoked i }).setFlag i
      .holdOver).placeControl i .revoke k = withRevoke s k i :=
    withLane_updLane (s.withInstrument k _) i (flagged (s.lane i) .holdOver) _
  rw [State.revokeHold, hstate]

theorem withRevoke_instrument (s : State) (k m : InstrumentId) (i : LaneId) : (withRevoke s k i).instrument m =
    if m = k then { (s.instrument k).freed with revoked := addLane (s.instrument k).revoked i }
    else s.instrument m :=
  State.instrument_updInstrument s k m fun n => { n.freed with revoked := addLane n.revoked i }

theorem withRevoke_lane (s : State) (k : InstrumentId) (i j : LaneId) : (withRevoke s k i).lane j =
    if j = i then { flagged (s.lane i) .holdOver with control := some { kind := .revoke, instrument := k } }
    else s.lane j :=
  State.lane_updLane (s.withInstrument k _) i j fun _ => _

theorem withGrant_lane (s : State) (k : InstrumentId) (i j : LaneId) : (withGrant s k i).lane j =
    if j = i then { s.lane i with control := some { kind := .grant, instrument := k } } else s.lane j :=
  State.lane_updLane (s.withInstrument k _) i j fun _ => _

theorem withGrant_instrument (s : State) (k m : InstrumentId) (i : LaneId) : (withGrant s k i).instrument m =
    if m = k then grantedTo (s.instrument k) i else s.instrument m :=
  State.instrument_updInstrument s k m fun n => grantedTo n i

/-- Settles O52: the holder's RELEASE, another lane's, and the hold timer. -/
theorem releaseAndHoldExpiryPassTheInstrumentOn : Obligations.ReleaseAndHoldExpiryPassTheInstrumentOn := by
  intro s i k n hlaw hn
  have hother {j : LaneId} (hholder : n.holder = some i) (hnext : nextOf n = some j) : j ≠ i := by
    rintro rfl
    subst hn
    exact Bool.false_ne_true (((hlaw k).1 j hholder).2.symm.trans (inSet_of_nextOf hnext))
  refine ⟨fun f more hnext happ hkind hpayload => ?_, fun htimer => ?_, fun hholder htimer => ?_⟩
  · obtain ⟨l, hl⟩ : ∃ l : Lane, l = { s.lane i with rxBuffer := more } := ⟨_, rfl⟩
    have hexec := exec_release_of_nextFrame hnext happ hkind hpayload
    rw [← hl] at hexec ⊢
    have hinstr : (s.serving i l).instrument k = n := hn.symm
    refine ⟨fun hne hno => ?_, fun hne hyes => ?_, fun hholder hnone => ?_, fun j hholder hwaits => ?_⟩
    · rw [hexec, State.release, hinstr, if_neg hne, if_neg (by rw [hno]; decide)]
      rfl
    · rw [hexec, State.release, hinstr, if_neg hne, if_pos hyes, serving_setFlag, hn]
      rfl
    all_goals rw [release_of_holder (by rw [hinstr]; exact hholder), hinstr] at hexec
    all_goals
      have hself : ((s.serving i l).withInstrument k n.freed).instrument k = n.freed :=
        withInstrument_instrument_self (s.serving i l) k n.freed
    · obtain ⟨hreports, hevents, hurgent⟩ := report_chooseNext_none (w := (s.serving i l).withInstrument k n.freed)
        .released i (by rw [hself]; exact hnone)
      rw [hself] at hurgent
      refine ⟨_, hexec, hreports, hevents, hurgent, holdExpiry_of_ne ?_⟩
      rw [hreports.instrument_eq, hself]
      show (none : Option Nat) ≠ some 0
      simp
    · obtain ⟨hreports, hevents, hurgent⟩ := report_chooseNext_some (w := (s.serving i l).withInstrument k n.freed)
        .released i (by rw [hself]; exact hwaits)
      rw [hself] at hurgent
      have htimer := holdExpiry_of_ne (s := _) (k := k) (by
        rw [hreports.instrument_eq, withGrant_instrument_self]
        exact grantedTo_holdTimer_ne _ j)
      refine ⟨_, hexec, ?_, hevents, hurgent, htimer⟩
      have hgrant : withGrant ((s.serving i l).withInstrument k n.freed) k j =
          { ((s.withLane i l).withLane j
              { s.lane j with control := some { kind := .grant, instrument := k } }).withInstrument k
              { n with
                holder := some j, lastGranted := j, waiting := removeLane n.waiting j
                revoked := removeLane n.revoked j
                holdTimer := if n.holdLimit = 0 then none else some n.holdLimit } with
            pointer := i } := by
        have hlane : ((s.serving i l).withInstrument k n.freed).lane j = s.lane j :=
          serving_lane_of_ne s l (hother hholder hwaits)
        rw [withGrant, hself, withInstrument_withInstrument, hlane]
        rfl
      rw [hgrant] at hreports
      exact hreports
  · exact holdExpiry_of_ne (by rw [← hn]; exact htimer)
  · have hout : s.holdOut k = ((withRevoke s k i).reportInstrument k .revoked i 0).chooseNext k := by
      rw [State.holdOut, ← hn, hholder, htimer]
      exact revokeHold_eq s k i
    have hself : (withRevoke s k i).instrument k = { n.freed with revoked := addLane n.revoked i } := by
      rw [withRevoke_instrument, if_pos rfl, hn]
    have hexec : exec (.holdExpiry k) s = .next _ := (exec_holdExpiry_eq k s).trans (congrArg _ hout)
    cases hnext : firstAfter n.lastGranted n.waiting with
    | none =>
      obtain ⟨hreports, hevents, hurgent⟩ := report_chooseNext_none (w := withRevoke s k i) .revoked i
        (by rw [hself]; exact hnext)
      rw [hself] at hurgent
      refine ⟨_, hexec, hreports.arbiterFrame rfl, fun k' hne => ?_, ?_, ?_, fun j hne => ?_, hevents, hurgent⟩
      · rw [hreports.instrument_eq, withRevoke_instrument, if_neg hne]
      · rw [hreports.lane_eq, withRevoke_lane, if_pos rfl]
      · rw [hreports.instrument_eq, hself]
        rfl
      · rw [hreports.lane_eq, withRevoke_lane, if_neg hne]
    | some j =>
      obtain ⟨hreports, hevents, hurgent⟩ := report_chooseNext_some (w := withRevoke s k i) .revoked i
        (by rw [hself]; exact hnext)
      have hne : j ≠ i := hother hholder hnext
      rw [hself] at hurgent
      refine ⟨_, hexec, hreports.arbiterFrame rfl, fun k' hne' => ?_, ?_, ?_, fun j' hne' => ?_, hevents, hurgent⟩
      · rw [hreports.instrument_eq, withGrant_instrument, if_neg hne', withRevoke_instrument, if_neg hne']
      · rw [hreports.lane_eq, withGrant_lane, if_neg hne.symm, withRevoke_lane, if_pos rfl]
      · rw [hreports.instrument_eq, withGrant_instrument_self, hself]
        rfl
      · rw [hreports.lane_eq, withGrant_lane, withRevoke_lane, withRevoke_lane, if_neg hne, if_neg hne']

end Sys2Proof
end

section
/-! PROOFS of the statements about the loss of a lane's work: send failures, restarts and departures. -/

namespace Sys2Proof

open Sys2Proof.Machine

/-! ### A lane that loses its work (R82, R83, R150) -/

/-- A lane's entries are owed, it waits for nothing it holds, and a lane that is not BOUND has no entries and nothing at
the arbiter. -/
structure Losable (s : State) (i : LaneId) : Prop where
  owed : EntriesOwed s i (s.lane i).outstanding
  waits : HoldsWithoutWaiting s i
  entries : (s.lane i).state ≠ .bound → (s.lane i).outstanding = []
  arbiter : (s.lane i).state ≠ .bound → ∀ k, (s.instrument k).holder ≠ some i
    ∧ inSet (s.instrument k).waiting i = false ∧ inSet (s.instrument k).revoked i = false

theorem Lawful.losable {s : State} (h : Lawful s) (i : LaneId) : Losable s i := by
  refine ⟨h.owing.entriesOwed i, h.arbiter.holdsWithoutWaiting i, (h.engine i).2.2, fun hne k => ?_⟩
  obtain ⟨hholder, hwaiting, hrevoked, -⟩ := h.arbiter k
  refine ⟨fun hk => hne (hholder i hk).1, ?_, ?_⟩
  · exact Bool.eq_false_iff.2 fun hk => hne (hwaiting i hk).1
  · exact Bool.eq_false_iff.2 fun hk => hne (hrevoked i hk)

/-- The lane's own items may change, but for its state and entries. -/
theorem Losable.updLane {s : State} {i : LaneId} (h : Losable s i) {f : Lane → Lane}
    (hout : (f (s.lane i)).outstanding = (s.lane i).outstanding) (hstate : (f (s.lane i)).state = (s.lane i).state) :
    Losable (s.updLane i f) i := by
  obtain ⟨howed, hwaits, hentries, harbiter⟩ := h
  have hlane := s.lane_updLane_self i f
  refine ⟨?_, hwaits, ?_, ?_⟩
  · rw [hlane, hout]; exact howed
  · rw [hlane, hout, hstate]; exact hentries
  · rw [hlane, hstate]; exact harbiter

theorem loseEntries_of_nil {s : State} {i : LaneId} (o : MemberOutcome) (h : (s.lane i).outstanding = []) :
    s.loseEntries i o = s := by
  rw [State.loseEntries, h]; rfl

theorem withInstrument_self (s : State) (k : InstrumentId) : s.withInstrument k (s.instrument k) = s := by
  simp [State.withInstrument, State.instrument]

theorem loseInstrument_of_unmentioned {s : State} {i : LaneId} {k : InstrumentId}
    (h : (s.instrument k).holder ≠ some i ∧ inSet (s.instrument k).waiting i = false
      ∧ inSet (s.instrument k).revoked i = false) : State.loseInstrument i s k = s := by
  obtain ⟨hholder, hwaiting, hrevoked⟩ := h
  unfold State.loseInstrument
  dsimp only
  rw [if_neg hholder, updInstrument_eq_withInstrument, removeLane_of_not_inSet hwaiting,
    removeLane_of_not_inSet hrevoked]
  exact withInstrument_self s k

theorem loseInstruments_of_unmentioned {s : State} {i : LaneId} (h : ∀ k, (s.instrument k).holder ≠ some i
    ∧ inSet (s.instrument k).waiting i = false ∧ inSet (s.instrument k).revoked i = false) :
    s.loseInstruments i = s := by
  unfold State.loseInstruments
  induction instrumentIds with
  | nil => rfl
  | cons k ks ih => rw [List.foldl_cons, loseInstrument_of_unmentioned (h k), ih]

/-- A lane that is not BOUND has nothing to lose. -/
theorem afterLane_of_unbound {s : State} {i : LaneId} (h : Losable s i) (hne : (s.lane i).state ≠ .bound)
    (o : MemberOutcome) (g : Lane → Lane) : afterLane s i o g = s.updLane i g := by
  rw [afterLane, loseEntries_of_nil o (h.entries hne)]
  exact loseInstruments_of_unmentioned (h.arbiter hne)

theorem Losable.laneLoss {s : State} {i : LaneId} (h : Losable s i) {o : MemberOutcome} {g : Lane → Lane}
    (ho : o.owing = false) (hg : ∀ l, (g l).outstanding = l.outstanding) :
    LaneLoss s (afterLane s i o g) i o [] [] := laneLoss_of_loseEntries_loseInstruments ho h.owed h.waits hg

theorem Losable.lane_self {s : State} {i : LaneId} (h : Losable s i) (o : MemberOutcome) (g : Lane → Lane) :
    (afterLane s i o g).lane i = g { s.lane i with outstanding := [] } := by
  let v := (s.loseEntries i o).updLane i g
  have hv : HoldsWithoutWaiting v i := fun k => by
    rw [State.instrument_updLane, State.instrument, loseEntries_frame]
    exact h.waits k
  rw [afterLane, (loseInstruments_instrumentsLost hv).lanes, controlAfterLossOf_self hv]
  simp [v, loseEntries_lane]

/-! ### Send failures (R21, R46) -/

/-- A lane as a send failure leaves it, its entries not yet lost (R46). -/
def failedLane (l : Lane) : Lane :=
  { flagged l .sendFailed with inFlight := none, resume := l.state.asResume, txQueue := [], control := none }

theorem stall_eq {s : State} {i : LaneId} (h : Losable s i) : s.stall i =
    ((afterLane (s.updLane i failedLane) i .undelivered id).updLane i fun l =>
      { l with state := .stalled, announce := .stopped }).recordEvent i .stalled := by
  have hfailed : (s.setFlag i .sendFailed).updLane i (fun l =>
      { l with inFlight := none, resume := l.state.asResume, txQueue := [], control := none }) =
      s.updLane i failedLane := updLane_updLane s i _ _
  have hlosable : Losable (s.updLane i failedLane) i := h.updLane rfl rfl
  have hstate : ((s.updLane i failedLane).lane i).state = (s.lane i).state := by rw [State.lane_updLane_self]; rfl
  unfold State.stall
  rw [hfailed]
  dsimp only
  split
  · rename_i hbound
    rw [afterLane, updLane_self]
  · rename_i hne
    rw [afterLane_of_unbound hlosable (by rwa [hstate]), updLane_self]

/-- A send failure loses the lane's work as UNDELIVERED and records STALLED (R46). -/
theorem stall_laneLoss {s : State} {i : LaneId} (h : Losable s i) :
    LaneLoss s (s.stall i) i .undelivered [] [(i, .stalled)]
      ∧ (s.stall i).lane i =
        { flagged (s.lane i) .sendFailed with
          state := .stalled, resume := (s.lane i).state.asResume, inFlight := none, control := none, txQueue := []
          outstanding := [], announce := .stopped } := by
  have hlosable : Losable (s.updLane i failedLane) i := h.updLane rfl rfl
  have hfailed : ∀ l, (failedLane l).outstanding = l.outstanding := fun _ => rfl
  have hstalled : ∀ l : Lane, { l with state := .stalled, announce := .stopped }.outstanding = l.outstanding :=
    fun _ => rfl
  have hlost := hlosable.laneLoss (o := .undelivered) (g := id) rfl fun _ => rfl
  have hself := hlosable.lane_self .undelivered id
  rw [State.lane_updLane_self] at hself
  rw [stall_eq h]
  refine ⟨((hlost.updLane_right hstalled).recordEvent_right i .stalled).of_updLane_left hfailed, ?_⟩
  rw [recordEvent_lane, State.lane_updLane_self, hself]
  rfl

/-- A resend past the retry limit is a send failure (R21). -/
theorem countResend_of_le {s : State} {i : LaneId} {f : InFlight} (next : SendPhase)
    (h : (s.lane i).settings.retryLimit ≤ f.resends) : s.countResend i f next = s.stall i := if_pos (by omega)

/-- A send failure after a MARK that changed items of the lane that its loss does not turn on. -/
theorem stall_updLane_laneLoss {s : State} {i : LaneId} (h : Losable s i) {f : Lane → Lane}
    (hout : ∀ l, (f l).outstanding = l.outstanding) (hstate : ∀ l, (f l).state = l.state) :
    LaneLoss s ((s.updLane i f).stall i) i .undelivered [] [(i, .stalled)]
      ∧ ((s.updLane i f).stall i).lane i =
        { flagged (f (s.lane i)) .sendFailed with
          state := .stalled, resume := (s.lane i).state.asResume, inFlight := none, control := none, txQueue := []
          outstanding := [], announce := .stopped } := by
  obtain ⟨hloss, hlane⟩ := stall_laneLoss (h.updLane (hout _) (hstate _))
  rw [State.lane_updLane_self, hstate] at hlane
  exact ⟨hloss.of_updLane_left hout, hlane⟩

/-- Settles O43, by the mark window and by a MARK. -/
theorem sendFailureStallsTheLane : Obligations.SendFailureStallsTheLane := by
  intro s i f n st hlaw hf hphase hlimit hstate
  have hlosable := hlaw.losable i
  have hocc : (s.lane i).state.occupied = true := by rw [hstate]; cases st <;> rfl
  have hresume : (s.lane i).state.asResume = some st := by rw [hstate]; cases st <;> rfl
  refine ⟨fun hzero => ?_, fun seq code check hcode hcheck => ?_⟩
  · obtain ⟨hloss, hlane⟩ := stall_laneLoss hlosable
    rw [hresume] at hlane
    refine ⟨_, ?_, hlane, hloss⟩
    rw [exec_markWindowExpiry_eq, markWindowOut_of_awaiting hf (hphase.trans (by rw [hzero])),
      countResend_of_le _ hlimit]
  · have hflight : ((s.withLane i (huntingAfresh (s.lane i))).lane i).inFlight = some f := by
      rw [withLane_lane_self]; exact hf
    obtain rfl | rfl := hcode
    · obtain ⟨hloss, hlane⟩ := stall_updLane_laneLoss hlosable (f := huntingAfresh) (fun _ => rfl) fun _ => rfl
      rw [hresume] at hlane
      refine ⟨_, ?_, hlane, hloss⟩
      rw [exec_mark_of_code hocc hcheck (c := .again) rfl, takeMark_again hflight hphase, countResend_of_le]
      · rfl
      · rw [withLane_lane_self]; exact hlimit
    · obtain ⟨hloss, hlane⟩ := stall_updLane_laneLoss hlosable (f := fun l => flagged (huntingAfresh l) .txSpoilt)
        (fun _ => rfl) fun _ => rfl
      rw [hresume] at hlane
      refine ⟨_, ?_, hlane, hloss⟩
      rw [exec_mark_of_code hocc hcheck (c := .spoilt) rfl, takeMark_spoilt hflight hphase, withLane_setFlag,
        countResend_of_le]
      · rfl
      · rw [withLane_lane_self]; exact hlimit

/-! ### Mode switches (R8, R40) -/

theorem takeFrame_outstanding (l : Lane) (f : RawFrame) : (l.takeFrame f).outstanding = l.outstanding := by
  unfold Lane.takeFrame
  split_ifs <;> rfl

theorem takeFrame_txBusy (l : Lane) (f : RawFrame) : (l.takeFrame f).txBusy = l.txBusy := by
  unfold Lane.takeFrame
  split_ifs <;> rfl

/-- A valid frame on a lane with no sequence taken and nothing in flight (R8, R15 to R17, R20). -/
theorem handleFrame_afresh {s : State} {i : LaneId} (f : RawFrame) (hflight : (s.lane i).inFlight = none)
    (htaken : (s.lane i).lastTaken = none) : ∃ l, s.handleFrame i f = s.withLane i l
      ∧ HandledAfresh (s.lane i) l f ∧ l.outstanding = (s.lane i).outstanding ∧ l.txBusy = (s.lane i).txBusy := by
  have hself : s.withLane i (s.lane i) = s := withLane_eq_of_lane_eq rfl
  by_cases hkind : f.kind = 0x20#8
  · cases hmark : markOfPayload f.payload with
    | none =>
      refine ⟨flagged (s.lane i) .noise, ?_, ⟨fun _ => ⟨fun _ => rfl, fun hgood => ?_⟩, fun h => absurd hkind h⟩,
        rfl, rfl⟩
      · rw [handleFrame_of_mark hkind]
        simp only [hmark, setFlag_eq_withLane]
      · exact absurd ((markOfPayload_eq_none_iff _).1 hmark) hgood
    | some m =>
      refine ⟨s.lane i, ?_, ⟨fun _ => ⟨fun hbad => ?_, fun _ => rfl⟩, fun h => absurd hkind h⟩, rfl, rfl⟩
      · rw [handleFrame_of_mark hkind, hself]
        simp only [hmark, takeMark_of_none hflight]
      · rw [(markOfPayload_eq_none_iff _).2 hbad] at hmark
        cases hmark
  · have htake := takeFrame_eq_withLane s i (s.lane i) f
    rw [hself] at htake
    obtain ⟨hdiscarded, hanswered⟩ := takeFrame_spec (s.lane i) f
    have hfresh : (s.lane i).lastTaken ≠ some f.seq := by rw [htaken]; simp
    refine ⟨_, (handleFrame_of_ne_mark hkind).trans htake, ⟨fun h => absurd h hkind, fun _ => ⟨hdiscarded, ?_⟩⟩,
      takeFrame_outstanding _ f, takeFrame_txBusy _ f⟩
    exact ⟨fun hm => ((hanswered hm).2 hfresh).1, fun hm hrx => (((hanswered hm).2 hfresh).2 hrx).1,
      fun hm hrx => (((hanswered hm).2 hfresh).2 hrx).2⟩

/-- The lane after the loss may be replaced by one without entries. -/
theorem LaneLoss.withLane_right {s t : State} {i : LaneId} {o : MemberOutcome} {first : List UrgentReport}
    {events : List (LaneId × EventKind)} {l : Lane} (hl : l.outstanding = []) (h : LaneLoss s t i o first events) :
    LaneLoss s (t.withLane i l) i o first events := by
  obtain ⟨-, hrecords, hclosed, hinstr, hlanes, hreports, hevents, hframe⟩ := h
  refine ⟨by simpa using hl, hrecords, hclosed, hinstr, fun j hj => ?_, hreports, hevents, ?_⟩
  · exact (t.lane_updLane_of_ne (fun _ => l) hj).trans (hlanes j hj)
  · exact RosterFrame.trans hframe (updLane_frame t i fun _ => l)

/-- A lane engine that switches to a mode (R8). -/
def switchedLane (framing : Framing) (l : Lane) : Lane :=
  { (huntingAfresh l).abandon with mode := framing, lastTaken := none, txSeq := 0#8, control := none }

theorem switchedLane_eq (framing : Framing) (l : Lane) : switchedLane framing l =
    { l with
      hunt := .hunt, gapTimer := none, inFlight := none, mode := framing, lastTaken := none, txSeq := 0#8
      control := none, txBusy := (switchedLane framing l).txBusy } := by
  unfold switchedLane
  rw [abandon_eq]
  rfl

/-- A valid frame of the other framing switches the mode and is handled then (R8). -/
theorem receiveFrame_of_switch {s : State} {i : LaneId} {f : RawFrame} (hocc : (s.lane i).state.occupied = true)
    (hvalid : f.check = checkWord f.kind f.seq f.payload) (hmode : f.framing ≠ (s.lane i).mode) :
    s.receiveFrame i f =
      (if f.framing = .loader then (s.updLane i (switchedLane f.framing)).loaderRestart i
      else s.updLane i (switchedLane f.framing)).handleFrame i f := by
  have hok : frameValid f = true := beq_iff_eq.2 hvalid
  have hswitched : (s.updLane i Lane.huntFresh).updLane i (fun l =>
      { l.abandon with mode := f.framing, lastTaken := none, txSeq := 0#8, control := none }) =
      s.updLane i (switchedLane f.framing) := updLane_updLane s i _ _
  simp only [State.receiveFrame, hocc, hok, hmode, if_true, if_false, State.switchMode, hswitched]

/-- The lane under a restart into LOADER, its entries lost (R40). -/
theorem loaderRestart_eq {s : State} {i : LaneId} (h : Losable s i) : s.loaderRestart i =
    ((afterLane s i .lost fun l => l.removeSteps ((s.lane i).outstanding.map OutEntry.stepId)).updLane i
      Lane.restarted).recordEvent i .loader := by
  unfold State.loaderRestart
  dsimp only
  split
  · rfl
  · rename_i hne
    rw [afterLane_of_unbound h hne, h.entries hne]
    have hnone : s.updLane i (fun l => l.removeSteps ([].map OutEntry.stepId)) = s := by
      rw [updLane_eq_withLane, removeSteps_stepIds]
      have hall : (s.lane i).txQueue.filter (staysWithout []) = (s.lane i).txQueue :=
        List.filter_eq_self.2 fun q _ => by cases q <;> rfl
      rw [hall]
      exact withLane_eq_of_lane_eq rfl
    rw [hnone]

/-- A restart into LOADER loses the lane's work and records LOADER (R40). -/
theorem loaderRestart_laneLoss {s : State} {i : LaneId} (h : Losable s i) :
    LaneLoss s (s.loaderRestart i) i .lost [] [(i, .loader)]
      ∧ (s.loaderRestart i).lane i =
        { s.lane i with
          state := .seated, outstanding := []
          announce := .running ((s.lane i).settings.announceLimit * 1000)
          resume := if (s.lane i).state = .stalled then none else (s.lane i).resume
          txQueue := (s.lane i).txQueue.filter (staysWithout (s.lane i).outstanding) } := by
  have hremoved : ∀ l : Lane,
      (l.removeSteps ((s.lane i).outstanding.map OutEntry.stepId)).outstanding = l.outstanding := fun _ => rfl
  have hrestarted : ∀ l, (Lane.restarted l).outstanding = l.outstanding := fun _ => rfl
  have hlost := h.laneLoss (o := .lost) rfl hremoved
  have hself := h.lane_self .lost fun l => l.removeSteps ((s.lane i).outstanding.map OutEntry.stepId)
  rw [loaderRestart_eq h]
  refine ⟨(hlost.updLane_right hrestarted).recordEvent_right i .loader, ?_⟩
  rw [recordEvent_lane, State.lane_updLane_self, hself, removeSteps_stepIds]
  rfl

/-- Settles O39. -/
theorem modeSwitchIntoLoaderRestarts : Obligations.ModeSwitchIntoLoaderRestarts := by
  intro s i f hlaw hocc hmode hvalid
  have hexec := (exec_frameCommand_eq i f s).trans (congrArg _ (receiveFrame_of_switch hocc hvalid hmode))
  have hlane : (s.updLane i (switchedLane f.framing)).lane i = switchedLane f.framing (s.lane i) :=
    s.lane_updLane_self i _
  have hout : ∀ l, (switchedLane f.framing l).outstanding = l.outstanding := fun l => by rw [switchedLane_eq]
  have hstate : ∀ l, (switchedLane f.framing l).state = l.state := fun l => by rw [switchedLane_eq]
  cases hframing : f.framing with
  | loader =>
    have hlosable := (hlaw.losable i).updLane (hout _) (hstate _)
    rw [if_pos hframing] at hexec
    obtain ⟨hloss, hself⟩ := loaderRestart_laneLoss hlosable
    rw [hlane] at hself
    obtain ⟨l, hhandled, hafresh, hkept, hbusy⟩ := handleFrame_afresh
      (s := (s.updLane i (switchedLane f.framing)).loaderRestart i) (i := i) f (by rw [hself, switchedLane_eq])
      (by rw [hself, switchedLane_eq])
    rw [hhandled] at hexec
    refine ⟨_, hexec, fun _ => ⟨?_, ?_⟩, fun h => (by cases h)⟩
    · rw [withLane_lane_self, hbusy, hself]
      rw [hself, switchedLane_eq, hframing] at hafresh
      rw [switchedLane_eq, hframing]
      exact hafresh
    · exact (hloss.withLane_right (by rw [hkept, hself])).of_updLane_left hout
  | app =>
    rw [if_neg (by rw [hframing]; decide)] at hexec
    obtain ⟨l, hhandled, hafresh, hkept, hbusy⟩ := handleFrame_afresh
      (s := s.updLane i (switchedLane f.framing)) (i := i) f (by rw [hlane, switchedLane_eq])
      (by rw [hlane, switchedLane_eq])
    rw [hhandled] at hexec
    refine ⟨_, hexec, fun h => (by cases h), fun _ => ⟨?_, ?_⟩⟩
    · rw [withLane_lane_self, hbusy, hlane]
      rw [hlane, switchedLane_eq, hframing] at hafresh
      rw [switchedLane_eq, hframing]
      exact hafresh
    · rw [withLane_lane_self, updLane_eq_withLane, withLane_withLane]

end Sys2Proof
end

section
/-! PROOFS of the statements about restarts by POWER and about departures. -/

namespace Sys2Proof

open Sys2Proof.Machine

/-! ### Restarts by POWER off (R41, R132) -/

theorem powerOffEngine_removeSteps (l : Lane) (gone : List Half) :
    (l.removeSteps gone).powerOffEngine = l.powerOffEngine := by
  have hbusy : (l.removeSteps gone).abandon.txBusy = l.abandon.txBusy := by
    unfold Lane.removeSteps Lane.abandon
    cases l.inFlight <;> rfl
  rw [powerOffEngine_eq, powerOffEngine_eq, hbusy]
  rfl

theorem powerOffRestart_eq {s : State} {i : LaneId} (h : Losable s i) :
    s.powerOffRestart i = (afterLane s i .lost Lane.powerOffEngine).updLane i Lane.restarted := by
  unfold State.powerOffRestart
  dsimp only
  split
  · have hengine : (s.loseWork i).updLane i Lane.powerOffEngine =
        (s.loseEntries i .lost).updLane i Lane.powerOffEngine := by
      rw [State.loseWork, updLane_updLane]
      simp only [powerOffEngine_removeSteps]
    rw [hengine, afterLane]
  · rename_i hne
    rw [afterLane_of_unbound h hne]

/-- A restart by POWER off loses the lane's work without an event of its own (R41). -/
theorem powerOffRestart_laneLoss {s : State} {i : LaneId} (h : Losable s i) :
    LaneLoss s (s.powerOffRestart i) i .lost [] []
      ∧ (s.powerOffRestart i).lane i =
        { s.lane i with
          state := .seated, mode := .app, txSeq := 0#8, lastTaken := none, inFlight := none, control := none
          txQueue := [], marks := [], hunt := .hunt, gapTimer := none, outstanding := []
          announce := .running ((s.lane i).settings.announceLimit * 1000)
          resume := if (s.lane i).state = .stalled then none else (s.lane i).resume
          txBusy := ((s.powerOffRestart i).lane i).txBusy } := by
  have hengine : ∀ l : Lane, l.powerOffEngine.outstanding = l.outstanding := fun l => by rw [powerOffEngine_eq]
  have hrestarted : ∀ l, (Lane.restarted l).outstanding = l.outstanding := fun _ => rfl
  have hself := h.lane_self .lost Lane.powerOffEngine
  rw [powerOffRestart_eq h]
  refine ⟨(h.laneLoss rfl hengine).updLane_right hrestarted, ?_⟩
  rw [State.lane_updLane_self, hself, powerOffEngine_eq]
  rfl

theorem Losable.taken {s : State} {i : LaneId} (h : Losable s i) (o : Order) (rest : List Order) :
    Losable (s.taken o rest) i := ⟨h.owed, h.waits, h.entries, h.arbiter⟩

/-- POWER switched off under a phone (R132). -/
theorem switchPower_off {s : State} {i : LaneId} (hocc : (s.lane i).state.occupied = true)
    (hpower : (s.lane i).power = true) :
    s.switchPower i false = (s.updLane i fun l => { l with power := false }).powerOffRestart i :=
  (if_neg (by rw [hpower]; decide)).trans (if_pos ⟨rfl, hocc⟩)

/-- The lane whose phone loses POWER, under the settings it then has. -/
def unpowered (settings : LaneSettings) (l : Lane) : Lane := { l with settings := settings, power := false }

/-- POWER off under a phone, with new settings stored before, as the statements describe it (R41). -/
theorem unpowered_restart {s : State} {i : LaneId} (h : Losable s i) (settings : LaneSettings) {l : Lane}
    (hl : l =
      { s.lane i with
        state := .seated, mode := .app, txSeq := 0#8, lastTaken := none, inFlight := none, control := none
        txQueue := [], marks := [], hunt := .hunt, gapTimer := none, outstanding := [], power := false
        announce := .running ((s.lane i).settings.announceLimit * 1000)
        resume := if (s.lane i).state = .stalled then none else (s.lane i).resume }) :
    LaneLoss s ((s.updLane i (unpowered settings)).powerOffRestart i) i .lost [] []
      ∧ ((s.updLane i (unpowered settings)).powerOffRestart i).lane i =
        { l with
          settings := settings, announce := .running (settings.announceLimit * 1000)
          txBusy := (((s.updLane i (unpowered settings)).powerOffRestart i).lane i).txBusy } := by
  have hkept : ∀ l, (unpowered settings l).outstanding = l.outstanding := fun _ => rfl
  obtain ⟨hloss, hlane⟩ := powerOffRestart_laneLoss (h.updLane (f := unpowered settings) rfl rfl)
  refine ⟨hloss.of_updLane_left hkept, hlane.trans ?_⟩
  rw [State.lane_updLane_self, hl]
  rfl

theorem updLane_const (s : State) (i : LaneId) (f : Lane → Lane) :
    s.updLane i f = s.updLane i fun _ => f (s.lane i) := rfl

/-- A LINE's switch of POWER to off under a phone. -/
theorem actLines_off {s : State} {i : LaneId} (key : Byte) (duration : Half) (hocc : (s.lane i).state.occupied = true)
    (hpower : (s.lane i).power = true) : s.actLines (lineArgs i 0x02#8 key duration) =
      keyActed ((s.updLane i (unpowered (s.lane i).settings)).powerOffRestart i) i
        (if key = 0x00#8 then none else some duration.toNat) := by
  have hoff : s.updLane i (fun l => { l with power := false }) = s.updLane i (unpowered (s.lane i).settings) := by
    rw [updLane_const, updLane_const s i (unpowered _)]
    rfl
  rw [actLines_eq]
  show keyActed (s.switchPower i false) i _ = _
  rw [switchPower_off hocc hpower, hoff]
  rfl

/-- The LINE that restarts a phone: its action and what its ANSWER gives (R132, R137). -/
theorem actLine_off {s : State} {i : LaneId} {l : Lane} (h : Losable s i) (hocc : (s.lane i).state.occupied = true)
    (hpower : (s.lane i).power = true) (key : Byte) (duration : Half) (hl : l =
      { s.lane i with
        state := .seated, mode := .app, txSeq := 0#8, lastTaken := none, inFlight := none, control := none
        txQueue := [], marks := [], hunt := .hunt, gapTimer := none, outstanding := [], power := false
        announce := .running ((s.lane i).settings.announceLimit * 1000)
        resume := if (s.lane i).state = .stalled then none else (s.lane i).resume }) :
    ∃ u, actLine (lineArgs i 0x02#8 key duration) s =
        (u, .okLine .seated false (u.lane i).keyPulse.isSome ((u.lane i).keyPulse.getD 0)
          (l.board.latch || (l.board.verdict == .fail && l.settings.rejectEnable)) l.seat)
      ∧ u.lane i =
        { l with
          txBusy := (u.lane i).txBusy
          keyPulse := if key = 0x00#8 then l.keyPulse else if duration = 0#16 then none else some duration.toNat }
      ∧ LaneLoss s u i .lost [] [] := by
  obtain ⟨hloss, hlane⟩ := unpowered_restart h (s.lane i).settings hl
  have hoff := actLines_off key duration hocc hpower
  rw [keyActed_eq_withLane] at hoff
  generalize (s.updLane i (unpowered (s.lane i).settings)).powerOffRestart i = v at hloss hlane hoff
  have hself : v.lane i = { l with txBusy := (v.lane i).txBusy } := hlane.trans (by rw [hl])
  have hstate : l.state = .seated := by rw [hl]
  have hdown : l.power = false := by rw [hl]
  have hempty : l.outstanding = [] := by rw [hl]
  generalize (v.lane i).txBusy = busy at hself
  rw [hself] at hoff
  obtain ⟨k, hk⟩ : ∃ k : Lane, k =
      { l with
        txBusy := busy
        keyPulse := if key = 0x00#8 then l.keyPulse else if duration = 0#16 then none else some duration.toNat } :=
    ⟨_, rfl⟩
  have hacted : s.actLines (lineArgs i 0x02#8 key duration) = v.withLane i k := by rw [hk]; exact hoff
  have hkstate : k.state = .seated := by rw [hk]; exact hstate
  have hkpower : k.power = false := by rw [hk]; exact hdown
  have hkreject : k.reject = (l.board.latch || (l.board.verdict == .fail && l.settings.rejectEnable)) := by rw [hk]; rfl
  have hkseat : k.seat = l.seat := by rw [hk]
  refine ⟨v.withLane i k, ?_, ?_, hloss.withLane_right (by rw [hk]; exact hempty)⟩
  · rw [actLine, hacted]
    simp only [lineArgs, withLane_lane_self]
    rw [Lane.lineAnswer, hkstate, hkpower, hkreject, hkseat]
  · rw [withLane_lane_self, hk]

/-- Auto-power cleared while POWER is on under a phone (R133). -/
theorem setAutoPower_off {s : State} {i : LaneId} (hold : (s.lane i).settings.autoPower = true)
    (hocc : (s.lane i).state.occupied = true) (hpower : (s.lane i).power = true) : s.setAutoPower i false =
      (s.updLane i fun l =>
        { l with settings := { l.settings with autoPower := false }, power := false }).powerOffRestart i := by
  have hlane := s.lane_updLane_self i fun l => { l with settings := { l.settings with autoPower := false } }
  refine (if_neg (by rw [hold]; decide)).trans ((if_neg (by decide)).trans ?_)
  rw [switchPower_off (by rw [hlane]; exact hocc) (by rw [hlane]; exact hpower), updLane_updLane]

/-- A LANE-SET that clears auto-power while POWER is on under a phone (R133, R180). -/
theorem setLane_off {s : State} {a : LaneSetBytes} {i : LaneId} (hrate : a.rate = 0xFF#8 ∨ a.rate.toNat ≤ 2)
    (hauto : a.auto = 0x00#8) (hkeeps : a.enable = 0xFF#8 ∨ a.enable = levelByte (s.lane i).settings.enabled)
    (hold : (s.lane i).settings.autoPower = true) (hocc : (s.lane i).state.occupied = true)
    (hpower : (s.lane i).power = true) (h : Losable s i) : s.setLane (a.args i) =
      (s.updLane i (unpowered (a.over (s.lane i).settings))).powerOffRestart i := by
  have hsaid : settingSaid a.auto = some false := by rw [hauto]; rfl
  have hstored : laneSetStored (a.args i) (laneSetTimed (a.args i) s) = s.withLane i
      { s.lane i with
        settings := { a.over (s.lane i).settings with autoPower := (s.lane i).settings.autoPower } } := by
    rw [laneSetStored_eq_withLane, laneSetTimed_eq_withLane, over_eq i hrate]
    simp only [LaneSetBytes.args, withLane_lane_self, withLane_withLane]
    rfl
  have hpowered : laneSetPowered (a.args i) (laneSetStored (a.args i) (laneSetTimed (a.args i) s)) =
      (s.updLane i (unpowered (a.over (s.lane i).settings))).powerOffRestart i := by
    have hover : (a.over (s.lane i).settings).autoPower = false := by
      rw [LaneSetBytes.over, hauto]; rfl
    have hauto' : (a.args i).autoPower = some false := hsaid
    rw [hstored, laneSetPowered, hauto']
    refine (setAutoPower_off (i := i) ?_ ?_ ?_).trans ?_
    · rw [withLane_lane_self]; exact hold
    · rw [withLane_lane_self]; exact hocc
    · rw [withLane_lane_self]; exact hpower
    · have hcleared (t : LaneSettings) (ht : t.autoPower = false) : { t with autoPower := false } = t := by rw [← ht]
      rw [withLane_updLane]
      exact congrArg (fun t => (s.withLane i (unpowered t (s.lane i))).powerOffRestart i) (hcleared _ hover)
  have hsettings : (((s.updLane i (unpowered (a.over (s.lane i).settings))).powerOffRestart i).lane i).settings =
      a.over (s.lane i).settings := by
    rw [(unpowered_restart h (a.over (s.lane i).settings) rfl).2]
  rw [setLane_eq, laneSetDisabled_of_not, hpowered, laneSetEnabled_of_not]
  · rintro ⟨hon, hno⟩
    have hno' : (a.over (s.lane i).settings).enabled = false := hsettings ▸ hno
    exact Bool.false_ne_true (hno'.symm.trans (settingSaid_of_same hkeeps hon).symm)
  · rw [laneSetTimed_eq_withLane, withLane_lane_self]
    rintro ⟨hoff, hyes⟩
    exact Bool.false_ne_true ((settingSaid_of_same hkeeps hoff).trans hyes)

/-- Settles O17, by a LINE and by a LANE-SET. -/
theorem powerOffRestartsThePhone : Obligations.PowerOffRestartsThePhone := by
  intro s o rest i l key duration a hready hlaw hstart hocc hpower hl
  have hlosable : Losable (s.taken o rest) i := (hlaw.losable i).taken o rest
  refine ⟨fun hkind hbody hkey => ?_, fun hkind hbody hauto hold henable hrate hsame hreject => ?_⟩
  · have hcheck : checkLine (s.taken o rest) o = .ok (lineArgs i 0x02#8 key duration) := by
      rw [checkLine_eq rest hstart, hbody, parseLine_body i duration (by decide) hkey]
    obtain ⟨u, hact, hlane, hloss⟩ := actLine_off hlosable hocc hpower key duration hl
    obtain ⟨t, hexec, hfollows⟩ := serves_line.answerFollows hready (isKind_of_kind hkind) hcheck hact
    exact ⟨u, t, hexec, hfollows, hlane, hloss⟩
  · have henabled : a.enable = 0xFF#8 ∨ a.enable.toNat ≤ 1 := by
      obtain h | h := henable
      · exact .inl h
      · rw [h]
        cases (s.lane i).settings.enabled <;> exact .inr (by decide)
    have hcheck := (checkLaneSet_body (s := s.taken o rest) hbody henabled hrate (.inr (by rw [hauto]; decide))
      hreject).trans (if_neg fun hchange => hchange.1 hsame)
    have hset : (s.taken o rest).setLane (a.args i) =
        ((s.taken o rest).updLane i (unpowered (a.over (s.lane i).settings))).powerOffRestart i :=
      setLane_off (s := s.taken o rest) (i := i) hrate hauto henable hold hocc hpower hlosable
    obtain ⟨hloss, hlane⟩ := unpowered_restart hlosable (a.over (s.lane i).settings) hl
    have hact : actLaneSet (a.args i) (s.taken o rest) =
        (((s.taken o rest).updLane i (unpowered (a.over (s.lane i).settings))).powerOffRestart i,
          .okLaneSet (a.over (s.lane i).settings) .seated) := by
      have hstate : l.state = .seated := by rw [hl]
      rw [actLaneSet, hset]
      simp only [LaneSetBytes.args]
      rw [hlane, hstate]
    obtain ⟨t, hexec, hfollows⟩ := serves_laneSet.answerFollows hready (isKind_of_kind hkind) hcheck hact
    exact ⟨_, t, hexec, hfollows, hlane, hloss⟩

end Sys2Proof
end

section
/-! PROOFS of the statements about departures: by seat loss, by lane disable and by a swap. -/

namespace Sys2Proof

open Sys2Proof.Machine

/-! ### A departure (R43) -/

theorem Losable.of_reports {s t : State} {i : LaneId} (h : Losable s i) (g : Reports s t) : Losable t i := by
  rw [g]
  exact ⟨h.owed, h.waits, h.entries, h.arbiter⟩

/-- A report ahead of the loss's own (R43 step 1). -/
theorem LaneLoss.of_offerUrgent_left {s t : State} {i : LaneId} {o : MemberOutcome} {first : List UrgentReport}
    {events : List (LaneId × EventKind)} {r : UrgentReport} (h : LaneLoss (s.offerUrgent r) t i o first events) :
    LaneLoss s t i o (r :: first) events := by
  obtain ⟨urgent, drops, hv⟩ : ∃ urgent drops, s.offerUrgent r = { s with urgent := urgent, urgentDrops := drops } := by
    rcases offerUrgent_cases s r with ⟨-, hv⟩ | ⟨-, hv⟩ <;> exact ⟨_, _, hv⟩
  obtain ⟨hempty, hrecords, hclosed, hinstr, hlanes, hreports, hevents, hframe⟩ := h
  have hfirst := (offerUrgent_offered s r).trans hreports (by rw [hv])
  rw [hv] at hrecords hclosed hinstr hlanes hevents hframe hfirst
  exact ⟨hempty, hrecords, hclosed, hinstr, hlanes, hfirst, hevents, hframe⟩

/-- A departure's loss, and what it leaves of the lane (R43, R45). -/
theorem depart_laneLoss {s : State} {i : LaneId} (h : Losable s i) (cause : DepartCause) :
    LaneLoss s (s.depart i cause) i .gone
        [.departure i cause (s.lane i).identity (s.lane i).bindCount (s.lane i).board] [(i, .departed)]
      ∧ (s.depart i cause).lane i =
        { departedLane (s.lane i) with
          state := cause.stateAfter
          power := if cause = .swapped then (s.lane i).power else false
          txBusy := if cause = .swapped then ((s.depart i cause).lane i).txBusy else false } := by
  have hreports := offerUrgent_reports s ((s.lane i).departureReport i cause)
  have hlosable := h.of_reports hreports
  have hengine : ∀ l : Lane, l.departEngine.outstanding = l.outstanding := fun l => by rw [departEngine_eq]
  have hdeparted : ∀ l : Lane, (l.departed cause).outstanding = l.outstanding := fun _ => rfl
  have hlost := hlosable.laneLoss (o := .gone) rfl hengine
  have hself := hlosable.lane_self .gone Lane.departEngine
  rw [hreports.lane_eq] at hself
  have heq : s.depart i cause = ((afterLane (s.offerUrgent ((s.lane i).departureReport i cause)) i .gone
      Lane.departEngine).updLane i fun l => l.departed cause).recordEvent i .departed := rfl
  refine ⟨?_, ?_⟩
  · rw [heq]
    exact ((hlost.updLane_right hdeparted).recordEvent_right i .departed).of_offerUrgent_left
  · have hlane : (s.depart i cause).lane i =
        (({ s.lane i with outstanding := [] } : Lane).departEngine).departed cause := by
      rw [heq, recordEvent_lane, State.lane_updLane_self, hself]
    rw [hlane, departEngine_eq]
    cases cause <;> rfl

/-- After the loss of its holder an instrument's old hold does not expire (R156). -/
theorem LaneLoss.holdExpiry {s t : State} {i : LaneId} {o : MemberOutcome} {first : List UrgentReport}
    {events : List (LaneId × EventKind)} (h : LaneLoss s t i o first events) {k : InstrumentId}
    (hholder : (s.instrument k).holder = some i) : exec (.holdExpiry k) t = .next t := by
  obtain ⟨-, -, -, hinstr, -⟩ := h
  refine holdExpiry_of_ne ?_
  rw [hinstr k, afterLoss, if_pos hholder]
  split
  · simp
  · rename_i j _
    exact grantedTo_holdTimer_ne (s.instrument k) j

/-- A debounced fall of the seat level (R29). -/
def fallenLane (l : Lane) : Lane := { l with debounce := none, seat := false }

theorem debounceOut_of_fall {s : State} {i : LaneId} (h : (s.lane i).debounce = some 0)
    (hraw : (s.lane i).rawSeat = false) (hseat : (s.lane i).seat = true) (hocc : (s.lane i).state.occupied = true) :
    s.debounceOut i = (s.updLane i fallenLane).depart i .sense := by
  have hstate : ((s.updLane i fallenLane).lane i).state = (s.lane i).state := by
    rw [State.lane_updLane_self]; rfl
  rw [debounceOut_of_changed h (by simp [hraw, hseat]), hraw]
  show (s.updLane i fallenLane).seatEdge i false = _
  unfold State.seatEdge
  rw [hstate]
  cases hst : (s.lane i).state with
  | off => rw [hst] at hocc; cases hocc
  | empty => rw [hst] at hocc; cases hocc
  | seated => rfl
  | bound => rfl
  | held => rfl
  | stalled => rfl

/-! ### A LANE-SET that disables a lane under a phone (R180) -/

/-- The settings of a lane that departs by disable, steps 1 and 2 (R180). -/
def disabledLane (a : LaneSetArgs) (l : Lane) : Lane :=
  { l with settings := { l.settings.withTiming a with enabled := false } }

theorem setLane_of_departing {s : State} {a : LaneSetBytes} {i : LaneId} (hoff : settingSaid a.enable = some false)
    (hold : (s.lane i).settings.enabled = true) (hocc : (s.lane i).state.occupied = true)
    (hgone : (((s.updLane i (disabledLane (a.args i))).depart i .disabled).lane i).state = .off) :
    s.setLane (a.args i) = ((s.updLane i (disabledLane (a.args i))).depart i .disabled).withLane i
      (fieldsStored (a.args i) (((s.updLane i (disabledLane (a.args i))).depart i .disabled).lane i)) := by
  have hdisabled : laneSetDisabled (a.args i) (laneSetTimed (a.args i) s) =
      (s.updLane i (disabledLane (a.args i))).depart i .disabled := by
    rw [laneSetTimed_eq_withLane, laneSetDisabled, if_pos (by rw [withLane_lane_self]; exact ⟨hoff, hold⟩)]
    refine (if_pos (by rw [LaneSetBytes.args, withLane_lane_self]; exact hocc)).trans ?_
    simp only [LaneSetBytes.args]
    rw [withLane_updLane]
    rfl
  rw [setLane_eq, hdisabled, laneSetPowered_laneSetStored, laneSetEnabled_of_not]
  · rfl
  · rintro ⟨hon, -⟩
    exact absurd (hoff.symm.trans hon) (by simp)
  · intro _ _ _
    exact (congrArg LaneState.occupied hgone).trans rfl

theorem autoPowered_off {l : Lane} (hpower : l.power = false) (hstate : l.state = .off) (level : Option Bool) :
    autoPowered l level = false := by
  cases level with
  | none => exact hpower
  | some b => cases b <;> simp [autoPowered, hpower, hstate, LaneState.occupied]

/-- The lane after a LANE-SET that disables it under a phone (R180). -/
theorem setLane_departed {s : State} {a : LaneSetBytes} {i : LaneId} (h : Losable s i)
    (hrate : a.rate = 0xFF#8 ∨ a.rate.toNat ≤ 2) (hoff : settingSaid a.enable = some false)
    (hold : (s.lane i).settings.enabled = true) (hocc : (s.lane i).state.occupied = true) :
    (s.setLane (a.args i)).lane i =
        { departedLane (s.lane i) with
          state := .off, power := false, txBusy := false
          settings := { a.over (s.lane i).settings with enabled := false } }
      ∧ LaneLoss s (s.setLane (a.args i)) i .gone
          [.departure i .disabled (s.lane i).identity (s.lane i).bindCount (s.lane i).board] [(i, .departed)] := by
  have hkept : ∀ l, (disabledLane (a.args i) l).outstanding = l.outstanding := fun _ => rfl
  obtain ⟨hloss, hlane⟩ := depart_laneLoss (h.updLane (f := disabledLane (a.args i)) rfl rfl) .disabled
  rw [State.lane_updLane_self] at hloss hlane
  have hset := setLane_of_departing hoff hold hocc (by rw [hlane]; rfl)
  generalize (s.updLane i (disabledLane (a.args i))).depart i .disabled = v at hloss hlane hset
  rw [hset, withLane_lane_self]
  refine ⟨?_, LaneLoss.withLane_right ?_ (hloss.of_updLane_left hkept)⟩
  · have hpower := autoPowered_off (l := v.lane i) (by rw [hlane]; rfl) (by rw [hlane]; rfl) (a.args i).autoPower
    rw [fieldsStored, hpower, hlane, over_eq i hrate]
    rfl
  · rw [fieldsStored, hlane]
    rfl

/-- Settles O20, by seat loss and by lane disable. -/
theorem departureTearsDownTheLane : Obligations.DepartureTearsDownTheLane := by
  intro s i hlaw hocc
  refine ⟨fun hdebounce hraw hseat => ?_, fun o rest a hready hkind hbody henable hold hrate hsame hauto hreject => ?_⟩
  · have hkept : ∀ l, (fallenLane l).outstanding = l.outstanding := fun _ => rfl
    obtain ⟨hloss, hlane⟩ := depart_laneLoss ((hlaw.losable i).updLane (f := fallenLane) rfl rfl) .sense
    rw [State.lane_updLane_self] at hloss hlane
    have hloss' := hloss.of_updLane_left hkept
    refine ⟨_, (exec_debounceExpiry_eq i s).trans (congrArg _ (debounceOut_of_fall hdebounce hraw hseat hocc)),
      hlane.trans rfl, hloss', fun k hk => hloss'.holdExpiry hk⟩
  · have hsaid : settingSaid a.enable = some false := by rw [henable]; rfl
    have hcheck := (checkLaneSet_body (s := s.taken o rest) hbody (.inr (by rw [henable]; decide)) hrate hauto
      hreject).trans (if_neg fun hchange => hchange.1 hsame)
    obtain ⟨hlane, hloss⟩ := setLane_departed ((hlaw.losable i).taken o rest) hrate hsaid hold hocc
    have hact : actLaneSet (a.args i) (s.taken o rest) = ((s.taken o rest).setLane (a.args i),
        .okLaneSet (((s.taken o rest).setLane (a.args i)).lane i).settings .off) := by
      have hstate : (((s.taken o rest).setLane (a.args i)).lane i).state = .off := by rw [hlane]
      rw [← hstate]
      rfl
    obtain ⟨t, hexec, hfollows⟩ := serves_laneSet.answerFollows hready (isKind_of_kind hkind) hcheck hact
    exact ⟨_, t, hexec, hfollows, hlane, hloss⟩

/-! ### Swaps (R38, R45) -/

/-- A HELLO under another identity departs the lane and checks the new identity (R38). -/
theorem helloByState_of_other {s : State} {i : LaneId} {id old : List Byte} (hocc : (s.lane i).state.occupied = true)
    (hid : (s.lane i).identity = some old) (hne : old ≠ id) : s.helloByState i id = s.swap i id := by
  unfold State.helloByState
  cases hst : (s.lane i).state with
  | off => rw [hst] at hocc; cases hocc
  | empty => rw [hst] at hocc; cases hocc
  | seated => simp [hid, hne]
  | bound => simp [hid, hne]
  | held => simp [hid, hne]
  | stalled => simp [hid, hne]

/-- A loss leaves what other lanes are BOUND under. -/
theorem LaneLoss.boundElsewhere {s t : State} {i : LaneId} {o : MemberOutcome} {first : List UrgentReport}
    {events : List (LaneId × EventKind)} (h : LaneLoss s t i o first events) (id : List Byte) :
    t.boundElsewhere i id = true ↔ ∃ j, j ≠ i ∧ (s.lane j).state = .bound ∧ (s.lane j).identity = some id := by
  obtain ⟨-, -, -, -, hlanes, -⟩ := h
  rw [boundElsewhere_eq_true_iff]
  refine exists_congr fun j => and_congr_right fun hne => ?_
  rw [hlanes j hne]

/-- The lane after a swap, held as a duplicate or bound as fresh (R38). -/
def swappedLane (l : Lane) (id : List Byte) (duplicate : Bool) : Lane :=
  if duplicate then
    { departedLane l with
      state := .held, identity := some id
      board :=
        { verdict := .fail, passCount := 0, marginalCount := 0, failCount := 0
          firstFailure := some .duplicateIdentity, latch := true } }
  else { departedLane l with state := .bound, identity := some id, bindCount := 1 }

/-- A swap: the departure, then the new identity (R38, R45). -/
theorem swap_laneLoss {s : State} {i : LaneId} (h : Losable s i) (id : List Byte) {duplicate : Bool}
    (hdup : duplicate = true ↔ ∃ j, j ≠ i ∧ (s.lane j).state = .bound ∧ (s.lane j).identity = some id) :
    LaneLoss s (s.swap i id) i .gone
        [.departure i .swapped (s.lane i).identity (s.lane i).bindCount (s.lane i).board]
        [(i, .departed), (i, if duplicate then .held else .bound)]
      ∧ (s.swap i id).lane i =
        { swappedLane (s.lane i) id duplicate with txBusy := ((s.swap i id).lane i).txBusy } := by
  obtain ⟨hloss, hlane⟩ := depart_laneLoss h .swapped
  have hbound := hloss.boundElsewhere id
  rw [State.swap]
  generalize s.depart i .swapped = v at hloss hlane hbound
  have hempty := hloss.1
  cases duplicate with
  | true =>
    rw [bindOrHold_of_bound (hbound.2 (hdup.1 rfl)), recordEvent_lane, withLane_lane_self]
    refine ⟨(hloss.withLane_right ?_).recordEvent_right i .held, ?_⟩
    · exact hempty
    · rw [hlane]
      rfl
  | false =>
    rw [bindOrHold_of_free (Bool.eq_false_iff.2 fun hyes => Bool.false_ne_true (hdup.2 (hbound.1 hyes))),
      recordEvent_lane, withLane_lane_self]
    have hfresh : (v.lane i).identity.isNone = true := by rw [hlane]; rfl
    rw [if_pos hfresh]
    refine ⟨(hloss.withLane_right ?_).recordEvent_right i .bound, ?_⟩
    · exact hempty
    · rw [hlane]
      rfl

theorem Losable.withPointer {s : State} {i : LaneId} (h : Losable s i) (p : LaneId) :
    Losable { s with pointer := p } i := ⟨h.owed, h.waits, h.entries, h.arbiter⟩

/-- Settles O48 by `swap_laneLoss`. -/
theorem swapDepartsThenBindsOrHolds : Obligations.SwapDepartsThenBindsOrHolds := by
  intro s i f more old l hnext hlaw happ hkind hmode hpos hlen hocc hid hne hl
  have hexec := exec_hello_of_nextFrame hnext happ hkind
  have hserved : s.serving i { s.lane i with rxBuffer := more } =
      ({ s with pointer := i } : State).updLane i fun l => { l with rxBuffer := more } := rfl
  have hkept : ∀ l : Lane, { l with rxBuffer := more }.outstanding = l.outstanding := fun _ => rfl
  have hlane : (s.serving i { s.lane i with rxBuffer := more }).lane i = { s.lane i with rxBuffer := more } :=
    serving_lane_self s i _
  rw [takeHello_of_app (by rw [hlane]; exact hmode) hpos hlen, helloByState_of_other (by rw [hlane]; exact hocc)
    (by rw [hlane]; exact hid) hne] at hexec
  have hlosable : Losable (s.serving i { s.lane i with rxBuffer := more }) i := by
    rw [hserved]
    exact ((hlaw.losable i).withPointer i).updLane rfl rfl
  have hswap (duplicate : Bool)
      (hdup : duplicate = true ↔ ∃ j, j ≠ i ∧ (s.lane j).state = .bound ∧ (s.lane j).identity = some f.payload) :=
    swap_laneLoss hlosable f.payload (duplicate := duplicate) (hdup.trans (exists_congr fun j =>
      and_congr_right fun hj => by rw [serving_lane_of_ne s _ hj]))
  rw [hlane] at hswap
  rw [hserved] at hswap
  rw [hserved] at hexec
  by_cases hdup : ∃ j, j ≠ i ∧ (s.lane j).state = .bound ∧ (s.lane j).identity = some f.payload
  · obtain ⟨hloss, hself⟩ := hswap true (iff_of_true rfl hdup)
    refine ⟨_, hexec, ?_, ?_⟩
    · rw [if_pos hdup, ← hid]
      exact hloss.of_updLane_left hkept
    · rw [if_pos hdup, hself, hl]
      rfl
  · obtain ⟨hloss, hself⟩ := hswap false (iff_of_false Bool.false_ne_true hdup)
    refine ⟨_, hexec, ?_, ?_⟩
    · rw [if_neg hdup, ← hid]
      exact hloss.of_updLane_left hkept
    · rw [if_neg hdup, hself, hl]
      rfl

end Sys2Proof
end

section
/-! PROOFS of the family of the rest: a RESULT that matches an outstanding entry. The judge's three steps one after
another: the member and the board take the findings, the COPY is offered, the outcome is settled. -/

namespace Sys2Proof

open Sys2Proof.Machine

/-! ### The findings in the member entry and in the verdict record (R76, R120 to R122) -/

theorem member_judged_eq (m : Member) (g : Findings) :
    m.judged g =
      { m with
        verdict := worseOf m.verdict g.verdict
        count := if m.count < 255 then m.count + 1 else m.count
        stat := g.stat.or m.stat } := by
  rw [← worse_eq_worseOf]
  rfl

theorem counted_eq (v w : Verdict) (n : Nat) :
    (if v = w then satIncr Config.counterMax n else n) = countedIf (v == w) 65535 n := by
  by_cases h : v = w
  · simp only [h, if_true, countedIf, beq_self_eq_true, true_and]
    rfl
  · simp [h, countedIf]

theorem firstFailureWritten_eq (stepId : Half) (tag : Byte) (g : Findings) (old : Option FirstFailure) :
    firstFailureWritten stepId tag g old =
      if g.verdict = .fail ∧ old = none then g.firstFailure.map fun first => .judged stepId tag first.1 first.2
      else old := by
  cases old <;> by_cases h : g.verdict = .fail <;> simp [firstFailureWritten, h]

/-- The verdict record after a judged RESULT, as the statements write it. -/
def boardJudged (b : VerdictRecord) (stepId : Half) (tag : Byte) (g : Findings) : VerdictRecord :=
  { verdict := worseOf b.verdict g.verdict
    passCount := countedIf (g.verdict == .pass) 65535 b.passCount
    marginalCount := countedIf (g.verdict == .marginal) 65535 b.marginalCount
    failCount := countedIf (g.verdict == .fail) 65535 b.failCount
    firstFailure :=
      if g.verdict = .fail ∧ b.firstFailure = none then
        g.firstFailure.map fun first => .judged stepId tag first.1 first.2
      else b.firstFailure
    latch := b.latch || g.critical }

theorem verdictRecord_judged_eq (b : VerdictRecord) (stepId : Half) (tag : Byte) (g : Findings) :
    b.judged stepId tag g = boardJudged b stepId tag g := by
  simp only [VerdictRecord.judged, boardJudged, worse_eq_worseOf, counted_eq, firstFailureWritten_eq]

/-! ### The entry that a RESULT matches (R74) -/

theorem takeResult_of_match {s : State} {i : LaneId} {f : RxFrame} {e : OutEntry}
    (he : e ∈ (s.lane i).outstanding) (hid : e.stepId = halfAt f.payload 0)
    (hrecord : ∀ e' ∈ (s.lane i).outstanding, e'.stepId = e.stepId → e'.record = e.record)
    (htag : byteAt f.payload 2 = (s.record e.record).tag) :
    takeResult i f s = s.judgeResult i e.record f.payload := by
  simp only [takeResult]
  split
  next hfind => exact absurd (decide_eq_true hid) (List.find?_eq_none.1 hfind e he)
  next e' hfind =>
    have hid' : e'.stepId = (resultOfPayload f.payload).stepId := by simpa using List.find?_some hfind
    have hsame : e'.record = e.record := hrecord e' (List.mem_of_find?_eq_some hfind) (hid'.trans hid.symm)
    rw [hsame]
    exact if_pos htag

/-! ### The COPY (R84, R85) -/

theorem copyResult_of_member {s : State} {i : LaneId} {r : RecordId} {m : Member}
    (hm : (s.record r).members[i] = some m)
    (v : Verdict) (p : List Byte) :
    s.copyResult i r v p =
        { s with bulk := (s.copyResult i r v p).bulk, bulkDrops := (s.copyResult i r v p).bulkDrops }
      ∧ if (s.record r).stream then BulkOffered s (s.copyResult i r v p) (.copy i v m.count p)
        else (s.copyResult i r v p).bulk = s.bulk ∧ (s.copyResult i r v p).bulkDrops = s.bulkDrops := by
  unfold State.copyResult
  by_cases hstream : (s.record r).stream = true
  · simp only [hstream, if_true, hm, Option.elim_some]
    exact ⟨offerBulk_eq s _, offerBulk_offered s _⟩
  · simp [hstream]

/-! ### The outcome (R77) -/

/-- What settling a RESULT from a member `m` leaves: the member's outcome, the entry of a final one gone, and the step
closed where nobody else owes. -/
structure ResultSettled (s t : State) (i : LaneId) (r : RecordId) (m : Member) (final : Bool) : Prop where
  frame : StepFrame s t
  lanes : ∀ j, j ≠ i → t.lane j = s.lane j
  records : ∀ r', r' ≠ r → t.record r' = s.record r'
  lane : t.lane i =
    { s.lane i with
      outstanding :=
        if final then (s.lane i).outstanding.filter fun e => e.record ≠ r else (s.lane i).outstanding }
  members : (t.record r).members =
    (s.record r).members.set i (some { m with outcome := if final then .answered else .partialAnswer })
  closes :
    if final = true ∧ (∀ j, j ≠ i → (s.record r).owes j = false) then
      t.record r =
          { s.record r with
            members := (t.record r).members, state := (t.record r).state, deadline := none, cause := some .complete }
        ∧ ClosedInto s t [r]
    else
      t.record r = { s.record r with members := (t.record r).members }
        ∧ t.bulk = s.bulk ∧ t.closing = s.closing ∧ t.freeOrder = s.freeOrder

theorem updMember_members_of_some {n : StepRecord} {i : LaneId} {m : Member} (hm : n.members[i] = some m)
    (f : Member → Member) : (n.updMember i f).members = n.members.set i (some (f m)) := by
  rw [StepRecord.updMember, hm, Option.map_some]

theorem settleResult_partial {s : State} {i : LaneId} {r : RecordId} {m : Member}
    (hopen : (s.record r).state = .opened) (howes : (s.record r).owes i = true)
    (hm : (s.record r).members[i] = some m) : ResultSettled s (s.settleResult i r false) i r m false := by
  have hset : s.settleResult i r false =
      s.updRecord r fun n => n.updMember i fun m => { m with outcome := .partialAnswer } := by
    simp [State.settleResult, State.setOutcome, hopen, howes]
  rw [hset]
  constructor
  case frame => rfl
  case lanes => exact fun j _ => rfl
  case records => exact fun r' hr => s.record_updRecord_of_ne _ hr
  case lane => rfl
  case members =>
    rw [State.record_updRecord_self, updMember_members_of_some hm]
    rfl
  case closes =>
    rw [if_neg fun h => Bool.false_ne_true h.1, State.record_updRecord_self]
    exact ⟨rfl, rfl, rfl, rfl⟩

theorem afterLoss_eq (n : StepRecord) (i : LaneId) (o : MemberOutcome) (closes : Bool) (st : RecordState) :
    n.afterLoss i o closes st =
      { n with
        members := (n.updMember i fun m => { m with outcome := o }).members
        state := if closes then st else n.state
        deadline := if closes then none else n.deadline
        cause := if closes then some .complete else n.cause } := by
  rw [updMember_members]
  rfl

theorem owedByNoneBut_iff (n : StepRecord) (i : LaneId) :
    n.owedByNoneBut i = true ↔ ∀ j, j ≠ i → n.owes j = false := by
  simp [StepRecord.owedByNoneBut, or_iff_not_imp_left]

/-- A final RESULT ends its entry as the loss of that entry alone does, with outcome ANSWERED. -/
theorem settleResult_last {s : State} {i : LaneId} {e : OutEntry} {m : Member}
    (hopen : (s.record e.record).state = .opened) (howes : (s.record e.record).owes i = true)
    (hm : (s.record e.record).members[i] = some m) :
    ResultSettled s (s.settleResult i e.record true) i e.record m true := by
  have howed : EntriesOwed s i [e] := ⟨by simpa using ⟨hopen, howes⟩, by simp⟩
  obtain ⟨hrecord, hclosed⟩ := loseEntry_entriesLost (o := .answered) rfl howed
  have hself := hrecord e.record
  rw [if_pos (by simp), afterLoss_eq, updMember_members_of_some hm] at hself
  rw [settleResult_final]
  constructor
  case frame => exact loseEntry_frame i .answered s e
  case lanes => exact fun j hj => by rw [loseEntry_lane, if_neg hj]
  case records => exact fun r' hr => loseEntry_record_of_ne i .answered s e hr
  case lane =>
    rw [loseEntry_lane, if_pos rfl]
    rfl
  case members =>
    rw [hself]
    rfl
  case closes =>
    cases hlast : (s.record e.record).owedByNoneBut i with
    | true =>
      rw [if_pos ⟨rfl, (owedByNoneBut_iff _ i).1 hlast⟩]
      rw [State.closedByLoss, List.filter_cons_of_pos (by simpa using hlast)] at hclosed
      rw [hlast] at hself
      exact ⟨by rw [hself]; rfl, hclosed⟩
    | false =>
      rw [if_neg fun h => Bool.false_ne_true (hlast.symm.trans ((owedByNoneBut_iff _ i).2 h.2))]
      rw [State.closedByLoss, List.filter_cons_of_neg (by simp [hlast])] at hclosed
      rw [hlast] at hself
      obtain ⟨hbulk, hfree, hclosing, -, -⟩ := (closedInto_iff _ _ _).1 hclosed
      exact ⟨by rw [hself]; rfl, by simpa using hbulk, by simpa using hclosing, by simpa using hfree⟩

theorem settleResult_settled {s : State} {i : LaneId} {e : OutEntry} {m : Member}
    (hopen : (s.record e.record).state = .opened) (howes : (s.record e.record).owes i = true)
    (hm : (s.record e.record).members[i] = some m) (final : Bool) :
    ResultSettled s (s.settleResult i e.record final) i e.record m final := by
  cases final with
  | true => exact settleResult_last hopen howes hm
  | false => exact settleResult_partial hopen howes hm

/-! ### The judge, in the order of R75 -/

/-- The member entry and the verdict record after the findings of a RESULT (R76, R120). -/
def Machine.State.withFindings (s : State) (i : LaneId) (r : RecordId) (stepId : Half) (tag : Byte) (g : Findings) :
    State :=
  (s.updRecord r fun n => n.updMember i fun m => m.judged g).updLane i fun l =>
    { l with board := l.board.judged stepId tag g }

theorem judgeResult_eq (s : State) (i : LaneId) (r : RecordId) (p : List Byte) (g : Findings)
    (hg : g = judge s.limits (s.record r).limitGroup (s.record r).tag (s.record r).statEntry (resultOfPayload p)) :
    s.judgeResult i r p =
      ((s.withFindings i r (halfAt p 0) (s.record r).tag g).copyResult i r g.verdict p).settleResult i r
        (byteAt p 3 == 0x01#8) := by
  subst hg
  rfl

theorem owes_updMember_judged (n : StepRecord) (i : LaneId) (g : Findings) (j : LaneId) :
    (n.updMember i fun m => m.judged g).owes j = n.owes j := by
  rw [owes_eq_any, owes_eq_any, updMember_members]
  by_cases h : j = i
  · cases hm : n.members[j] <;> simp_all [Member.judged]
  · simp [h]

theorem withFindings_record_self (s : State) (i : LaneId) (r : RecordId) (stepId : Half) (tag : Byte) (g : Findings) :
    (s.withFindings i r stepId tag g).record r = (s.record r).updMember i fun m => m.judged g := by
  rw [State.withFindings, State.record_updLane, State.record_updRecord_self]

theorem withFindings_record_of_ne (s : State) (i : LaneId) {r r' : RecordId} (stepId : Half) (tag : Byte)
    (g : Findings) (h : r' ≠ r) : (s.withFindings i r stepId tag g).record r' = s.record r' := by
  rw [State.withFindings, State.record_updLane, State.record_updRecord_of_ne _ _ h]

theorem withFindings_lane_self (s : State) (i : LaneId) (r : RecordId) (stepId : Half) (tag : Byte) (g : Findings) :
    (s.withFindings i r stepId tag g).lane i =
      { s.lane i with board := boardJudged (s.lane i).board stepId tag g } := by
  rw [State.withFindings, State.lane_updLane_self, verdictRecord_judged_eq]
  rfl

theorem withFindings_lane_of_ne (s : State) {i j : LaneId} (r : RecordId) (stepId : Half) (tag : Byte)
    (g : Findings) (h : j ≠ i) : (s.withFindings i r stepId tag g).lane j = s.lane j :=
  State.lane_updLane_of_ne _ _ h

/-- Settles O49: the entries for one step ID name one record (`OwingLaw.record_eq_of_stepId_eq`), so the judge takes
that record (`takeResult_of_match`); its three steps are `withFindings`, the COPY (`copyResult_of_member`) and the
outcome (`settleResult_settled`). -/
theorem matchedResultIsJudged : Obligations.MatchedResultIsJudged := by
  rintro s i f more e n m g final hnext hlaw happ hkind he hid rfl htag hm rfl hg
  obtain ⟨hopen, -, howes⟩ := (hlaw.owing i).1 e he
  let v := (s.serving i { s.lane i with rxBuffer := more }).withFindings i e.record (halfAt f.payload 0)
    (s.record e.record).tag g
  have hexec : exec .result s =
      .next ((v.copyResult i e.record g.verdict f.payload).settleResult i e.record (byteAt f.payload 3 == 0x01#8)) := by
    rw [exec_result_of_nextFrame hnext happ hkind, takeResult_of_match (by simpa using he) hid.symm
      (by simpa using fun e' he' => hlaw.owing.record_eq_of_stepId_eq hlaw.table he he') (by simpa using htag)]
    exact congrArg Host.Outcome.next (judgeResult_eq _ i e.record f.payload g hg)
  have hrecord : v.record e.record = (s.record e.record).updMember i fun m => m.judged g :=
    withFindings_record_self _ i e.record _ _ g
  have hjudged : (v.record e.record).members[i] = some (m.judged g) := by
    rw [hrecord, updMember_members_of_some hm]
    exact Vector.getElem_set_self ..
  obtain ⟨hw, hcopy⟩ := copyResult_of_member hjudged g.verdict f.payload
  generalize v.copyResult i e.record g.verdict f.payload = w at hexec hw hcopy
  have hwrecord (r : RecordId) : w.record r = v.record r := by rw [hw]; rfl
  have hwlane (j : LaneId) : w.lane j = v.lane j := by rw [hw]; rfl
  obtain ⟨hframe, hlanes, hrecords, hlane, hmembers, hcloses⟩ :=
    settleResult_settled (s := w) (i := i) (e := e) (m := m.judged g)
      (by rw [hwrecord, hrecord]; exact hopen)
      (by rw [hwrecord, hrecord, owes_updMember_judged]; exact howes)
      (by rw [hwrecord]; exact hjudged) (byteAt f.payload 3 == 0x01#8)
  generalize w.settleResult i e.record (byteAt f.payload 3 == 0x01#8) = t at *
  refine ⟨t, hexec, ?_, fun j hj => ?_, fun r' hr => ?_, ?_, ?_, w, ?_, ?_, ?_⟩
  · rw [hframe, hw]
    rfl
  · rw [hlanes j hj, hwlane]
    exact (withFindings_lane_of_ne _ _ _ _ _ hj).trans (serving_lane_of_ne s _ hj)
  · rw [hrecords r' hr, hwrecord]
    exact withFindings_record_of_ne _ i _ _ g hr
  · rw [hlane, hwlane, withFindings_lane_self, serving_lane_self, ← hid]
    rfl
  · rw [hmembers, hwrecord, hrecord, updMember_members_of_some hm, Vector.set_set, member_judged_eq]
  · rw [hrecord, member_judged_eq] at hcopy
    exact hcopy
  · rw [hframe]
  · have hclosing : w.closing = s.closing := by rw [hw]; rfl
    have hfree : w.freeOrder = s.freeOrder := by rw [hw]; rfl
    simp only [hwrecord, hrecord, owes_updMember_judged] at hcloses
    split at hcloses
    next hdone =>
      obtain ⟨hself, hclosed⟩ := hcloses
      rw [if_pos hdone]
      refine ⟨hself, ?_⟩
      rw [closedInto_iff, State.summaryRoom, hclosing, hfree] at hclosed
      exact hclosed
    next hstill =>
      obtain ⟨hself, hbulk, hsame, horder⟩ := hcloses
      rw [if_neg hstill]
      exact ⟨hself, hbulk, hsame.trans hclosing, horder.trans hfree⟩

end Sys2Proof
end
